-- ==== Sys2Proof/Word.lean ====
section
/-! DEFINITION. The word types of the block (R6, R7, R34, R37): every value is unsigned, bit 0 is the least
significant bit. Indices that the spec confines to a range are `Fin`s, so that a value outside the range, which the
spec calls no state of the machine (D33), cannot be written down. -/

namespace Sys2Proof

/-- One byte: a PCM sample and the tone output (R16, R22). -/
abbrev Byte := BitVec 8

/-- A 12-bit layer mask or LED output word: bit i is LED i (R6, R12, R16). -/
abbrev Mask := BitVec 12

/-- The three ground/select lines: bit l is the line of layer l (R16, R39). -/
abbrev GroundLines := BitVec 3

/-- The 4-bit event word `ev[3:0]` (R34). -/
abbrev EventWord := BitVec 4

/-- The strobe vector `sv[5:0]`, that is rst, btn[2], btn[1], btn[0], log_tick, hr_tick (R37). -/
abbrev StrobeVector := BitVec 6

/-- A layer index: 0, 1 or 2 (R6, R13). -/
abbrev Layer := Fin 3

/-- The SpeedLevel, an ordinal: 0, 1 or 2 (R11). A larger value is a slower animation (C1). -/
abbrev Speed := Fin 3

/-- A bit position of a layer mask: 0 to 11 (R14). Its addition is modulo 12. -/
abbrev BitPos := Fin 12

end Sys2Proof
end

