-- ==== Sys2Proof/Config.lean ====
section
/-! DEFINITION. What an implementation fixes: the parameters of R5, each of a type that holds only values inside
R5's ranges (V10 refuses the others), and the two values the spec leaves open without a default, which are opaque
constants. The parameters' default values, the seeds and the DELAY table stand in Sys2Proof/Machine/Constants.lean. -/

namespace Sys2Proof

/-- LAYER_POLICY (R5, D15): which layer the multiplexer drives on a high-rate tick. -/
inductive LayerPolicy where
  | lastPublished
  | roundRobin
deriving DecidableEq, Repr

/-- TICK_W (R5, D7): the width of `tick` and `db_last_tick`, at least 4. -/
abbrev TickWidth := { w : Nat // 4 ≤ w }

/-- PUBLISH_ORDER (R5, D16): a permutation of (0, 1, 2), that is three layer indices, no two alike. -/
abbrev PublishOrder := { order : List Layer // order.length = 3 ∧ order.Nodup }

/-- The PCM sample table (R5, R21, R22): at least one byte, the sample of index 0 first. It is read-only (R23). -/
structure PcmTable where
  first : Byte
  rest : List Byte
deriving DecidableEq, Repr, Inhabited

/-- The parameters of R5, the arguments the spec gives the model. PCM_LEN is the table's own length. -/
structure Params where
  tickWidth : TickWidth
  hasAudio : Bool
  pcm : PcmTable
  layerPolicy : LayerPolicy
  publishOrder : PublishOrder
  chaseSeed : Mask
  sparseSeed : Mask
  sparseEnd : Mask
  full : Mask
deriving DecidableEq, Repr

/-- PCM and PCM_LEN, OPEN in the spec (R5, R83, D24): no default exists, so the machine's own table is a free value.
Log entry 5. -/
opaque Config.pcm : PcmTable

/-- What a read of the PCM table gives at an index outside the table: R22 gives it no meaning, and no reachable state
presents one (R82). A free value of the table and the index. Log entry 6. -/
opaque Config.pcmOutside : PcmTable → Nat → Byte

end Sys2Proof
end

