-- ==== Sys2Proof/Machine/Constants.lean ====
section
/-! DEFINITION. The constants of R4 and the default values of the parameters of R5. The source's literals are unaudited
(N1); the spec takes them as normative. -/

namespace Sys2Proof.Machine

/-- DEBOUNCE_WINDOW (R4). -/
def debounceWindow : Nat := 5

/-- MAX_FIRED_LEDS (R4). -/
def maxFiredLeds : Nat := 6

/-- The constant table DELAY, (2, 4, 8) logical ticks per animation frame (R4, R21, R58). -/
def delay (speed : Speed) : Nat :=
  if speed = 0 then 2 else if speed = 1 then 4 else 8

/-- The default of TICK_W (R5, D7). -/
def defaultTickWidth : TickWidth := ⟨16, by decide⟩

/-- The default of PUBLISH_ORDER (R5, D16). -/
def defaultPublishOrder : PublishOrder := ⟨[0, 1, 2], by decide⟩

/-- The default of CHASE_SEED: the top bit (R5, D17). -/
def defaultChaseSeed : Mask := 0x800#12

/-- The default of SPARSE_SEED: every third LED lit, from the top bit (R5, D18). -/
def defaultSparseSeed : Mask := 0x924#12

/-- The default of SPARSE_END: the narrower sparse variant (R5, D18). -/
def defaultSparseEnd : Mask := 0x249#12

/-- The default of FULL: a fully lit layer (R5, D19). -/
def defaultFull : Mask := 0xFFF#12

/-- The defaults of R5 with a given PCM table, which has no default (D24). -/
def defaultParams (pcm : PcmTable) : Params where
  tickWidth := defaultTickWidth
  hasAudio := true
  pcm := pcm
  layerPolicy := .lastPublished
  publishOrder := defaultPublishOrder
  chaseSeed := defaultChaseSeed
  sparseSeed := defaultSparseSeed
  sparseEnd := defaultSparseEnd
  full := defaultFull

end Sys2Proof.Machine
end

