-- ==== Sys2Proof/Syntax.lean ====
section
/-! DEFINITION. The block's syntax: the events that stand where an ISA has instructions (R33), the items of a trace
text (R40), and what the environment delivers to the block, event words (R34) or strobe vectors (R37). -/

namespace Sys2Proof

/-- The three button identities (R35), a closed enumeration. -/
inductive ButtonId where
  | button0
  | button1
  | button2
deriving DecidableEq, Repr

/-- The five kinds of event (R33), one constructor per row of the opcode table. -/
inductive Instr where
  /-- No event (R41). -/
  | idle
  /-- Boot initialisation (R45, R96). -/
  | reset
  /-- One high-rate tick (R44). -/
  | htick
  /-- One logical tick (R43). -/
  | ltick
  /-- One falling edge of the button `b` (R42). -/
  | btn (b : ButtonId)
deriving DecidableEq, Repr

/-- An item of a trace text (R40): an event or a pseudo-event. -/
inductive TraceItem where
  | event (i : Instr)
  /-- `REP n, item`. -/
  | rep (n : Nat) (item : TraceItem)
  /-- `WAIT n`. -/
  | wait (n : Nat)
  /-- `REFRESH n`. -/
  | refresh (n : Nat)
  /-- `STROBE sv`. -/
  | strobe (sv : StrobeVector)
deriving DecidableEq, Repr

/-- One input that the environment delivers: an event word (R34), or, at the port level, the strobe vector sampled at
one clock edge (R37). -/
inductive Input where
  | word (w : EventWord)
  | strobe (sv : StrobeVector)
deriving DecidableEq, Repr

end Sys2Proof
end

