-- ==== Sys2Proof/Machine/State.lean ====
section
/-! DEFINITION. The state of the block: the registers of R7 and the output trace (R6, R31), with the two fields of the
model's own that a closed step needs, the parameters of R5 and the environment's inputs. -/

namespace Sys2Proof.Machine

/-- The LedMatrixState: one 12-bit mask per layer, layer 0 first (R12). -/
structure LedMatrix where
  m0 : Mask
  m1 : Mask
  m2 : Mask
deriving DecidableEq, Repr

/-- The cleared matrix, all three layers zero. -/
def LedMatrix.zero : LedMatrix := { m0 := 0#12, m1 := 0#12, m2 := 0#12 }

/-- One output write, an entry of the output trace (R6, R31). -/
inductive Output where
  /-- `out led <- v`. -/
  | led (v : Mask)
  /-- `out gnd <- v`. -/
  | gnd (v : GroundLines)
  /-- `out tone <- v`. -/
  | tone (v : Byte)
deriving DecidableEq, Repr

/-- The state of the block. -/
structure State where
  /-- The parameters of R5, which no event changes. The model's own field: log entry 1. -/
  params : Params
  /-- What the environment will deliver, next first. The model's own field: log entry 2. -/
  inputs : List Input
  /-- `tick`, the TickCounter (R8), a TICK_W-bit unsigned number. Log entry 7. -/
  tick : Nat
  /-- `db_last_tick`: the value of `tick` at the last accepted press (R9). Log entry 7. -/
  dbLastTick : Nat
  /-- `db_last_btn`: the button of the last accepted press, read by no rule (R9). -/
  dbLastBtn : ButtonId
  /-- `act_valid`: there is an active button (R10). -/
  actValid : Bool
  /-- `act_btn`: the active button (R10). -/
  actBtn : ButtonId
  /-- `speed`, the SpeedLevel (R11). -/
  speed : Speed
  /-- `matrix[0..2]`, the LedMatrixState (R12). -/
  matrix : LedMatrix
  /-- `sel_layer`: the layer the multiplexer drives (R13). -/
  selLayer : Layer
  /-- `mux_cursor`: where the multiplexer's next scan begins (R14). -/
  muxCursor : BitPos
  /-- `audio_cursor`, an index into the PCM table (R15). Log entries 7 and 9. -/
  audioCursor : Nat
  /-- `led_out` (R16). -/
  ledOut : Mask
  /-- `gnd_out` (R16). -/
  gndOut : GroundLines
  /-- `tone_out` (R16). Log entry 9. -/
  toneOut : Byte
  /-- The output trace: the output writes since reset, oldest first (R6, R31). -/
  trace : List Output
deriving DecidableEq, Repr

/-- Why a step faults. There is NO constructor: the block raises no exception and has no error state (R46, R85), so no
step of the model can answer a fault. Safe. -/
inductive Fault : Type
deriving DecidableEq, Repr

/-- Why a step is refused. -/
inductive Refusal where
  /-- An event that has no meaning in the model yet, by its mnemonic. Raised by no arm of `exec`: every event has its
  meaning. Safe. -/
  | notModelled (mnemonic : String)
  /-- The delivered event word is one of the nine reserved words (R36). Raised by `step`. Safe: the ports cannot produce
  such a word, and the spec refuses a trace that holds one. -/
  | reservedEventWord (w : EventWord)
deriving DecidableEq, Repr

/-- The state with the parameters `p`, the inputs `ins`, every register at its reset value and an empty output trace
(R17). -/
def resetState (p : Params) (ins : List Input) : State where
  params := p
  inputs := ins
  tick := 0
  dbLastTick := 0
  dbLastBtn := .button0
  actValid := false
  actBtn := .button0
  speed := 0
  matrix := LedMatrix.zero
  selLayer := 0
  muxCursor := 0
  audioCursor := 0
  ledOut := 0#12
  gndOut := 0#3
  toneOut := 0#8
  trace := []

/-- The machine right after reset (R17, R97): the default parameters with the free PCM table (log entries 4 and 5),
and no input waiting (log entry 2). -/
def State.reset : State :=
  resetState (defaultParams Config.pcm) []

end Sys2Proof.Machine
end

