-- ==== Sys2Proof/Machine/Ops.lean ====
section
/-! DEFINITION. The shared operations: masks (R6, R68), the matrix (R24), the PCM table (R22), output writes (R31) and
the arithmetic of the tick counter (R8). The block takes no exception and returns from none (R85, R90), so no operation
for that exists. -/

namespace Sys2Proof.Machine

/-! Masks (R6, R68) -/

/-- `shr12(v)`: the logical shift right by one; bit 0 is lost and bit 11 becomes 0 (R6). -/
def shr12 (v : Mask) : Mask :=
  v >>> 1

/-- `v[i]` (R6). -/
def testBit (v : Mask) (i : BitPos) : Bool :=
  v.getLsbD i.val

/-- `f[i] <- 1` on an accumulating mask (R68, R74). -/
def setBit (f : Mask) (i : BitPos) : Mask :=
  f ||| (1#12 <<< i.val)

/-- The bit positions 0 to 11, in that order. -/
def bitPositions : List BitPos :=
  [0, 1, 2, 3, 4, 5, 6, 7, 8, 9, 10, 11]

/-- `popcount12(v)`: the number of 1 bits (R6). -/
def popcount12 (v : Mask) : Nat :=
  bitPositions.countP (testBit v)

/-- `onehot3(l)` (R6). -/
def onehot3 (l : Layer) : GroundLines :=
  1#3 <<< l.val

/-! The matrix (R24) -/

/-- `matrix[l]`. -/
def matrixRead (m : LedMatrix) (l : Layer) : Mask :=
  if l = 0 then m.m0 else if l = 1 then m.m1 else m.m2

/-! The tick counter (R8): numbers modulo 2^TICK_W -/

/-- `2^TICK_W`. -/
def tickModulus (p : Params) : Nat :=
  2 ^ p.tickWidth.val

/-- `(t + 1) mod 2^TICK_W` (R57). -/
def tickSucc (p : Params) (t : Nat) : Nat :=
  (t + 1) % tickModulus p

/-- `(now - last) mod 2^TICK_W`, unsigned (R47, D9): the exact difference, then narrowed. -/
def elapsedTicks (p : Params) (now last : Nat) : Nat :=
  (((now : Int) - (last : Int)) % (tickModulus p : Int)).toNat

/-! The PCM table (R21 to R23) -/

/-- PCM_LEN, at least 1 (R5). -/
def pcmLen (p : Params) : Nat :=
  p.pcm.rest.length + 1

/-- `MemRead(PCM, i, 1)` (R22); a free value where `i` is outside the table (log entry 6). -/
def memReadPcm (p : Params) (i : Nat) : Byte :=
  (p.pcm.first :: p.pcm.rest).getD i (Config.pcmOutside p.pcm i)

/-! Register updates -/

/-- `tick <- t`. -/
def setTick (t : Nat) (s : State) : State :=
  { s with tick := t }

/-- `db_last_btn <- b; db_last_tick <- t`. -/
def setDebounce (b : ButtonId) (t : Nat) (s : State) : State :=
  { s with dbLastBtn := b, dbLastTick := t }

/-- `act_valid <- v; act_btn <- b; speed <- sp`. -/
def setMode (v : Bool) (b : ButtonId) (sp : Speed) (s : State) : State :=
  { s with actValid := v, actBtn := b, speed := sp }

/-- `matrix <- m`. -/
def setMatrix (m : LedMatrix) (s : State) : State :=
  { s with matrix := m }

/-- `sel_layer <- l`. -/
def setSelLayer (l : Layer) (s : State) : State :=
  { s with selLayer := l }

/-- `mux_cursor <- c`. -/
def setMuxCursor (c : BitPos) (s : State) : State :=
  { s with muxCursor := c }

/-- `audio_cursor <- c`. -/
def setAudioCursor (c : Nat) (s : State) : State :=
  { s with audioCursor := c }

/-! Output writes (R6, R31): each sets its register and appends its entry, an equal value included -/

/-- `out led <- v`. -/
def outLed (v : Mask) (s : State) : State :=
  { s with ledOut := v, trace := s.trace ++ [.led v] }

/-- `out gnd <- v`. -/
def outGnd (v : GroundLines) (s : State) : State :=
  { s with gndOut := v, trace := s.trace ++ [.gnd v] }

/-- `out tone <- v`. -/
def outTone (v : Byte) (s : State) : State :=
  { s with toneOut := v, trace := s.trace ++ [.tone v] }

end Sys2Proof.Machine
end

