-- ==== Sys2Proof/Machine/AudioStreamer.lean ====
section
/-! DEFINITION. The AudioStreamer, the optional component (R80 to R82). -/

namespace Sys2Proof.Machine

/-- `AudioStreamer.advance()` (R81): the sample at the cursor goes to the tone output, then the cursor moves on by one,
modulo PCM_LEN. -/
def audioAdvance (s : State) : State :=
  setAudioCursor ((s.audioCursor + 1) % pcmLen s.params)
    (outTone (memReadPcm s.params s.audioCursor) s)

/-- The audio part of a high-rate tick: nothing where HAS_AUDIO is false (R44, R80). -/
def audioTick (s : State) : State :=
  if s.params.hasAudio then audioAdvance s else s

end Sys2Proof.Machine
end

