-- ==== Sys2Proof/Machine/Flags.lean ====
section
/-! DEFINITION. The block has no flags and no condition codes (R18). What stands here are the conditions its events
test: transient values, used inside one event and stored nowhere. -/

namespace Sys2Proof.Machine

/-- `Debouncer.accepts()` (R47): at least DEBOUNCE_WINDOW logical ticks have passed since the last accepted press. It
reads `tick` and `db_last_tick` and nothing else. -/
def debouncerAccepts (s : State) : Bool :=
  decide (debounceWindow ≤ elapsedTicks s.params s.tick s.dbLastTick)

/-- The current value of `tick` is eligible for a frame: a multiple of `DELAY[speed]` (R58). -/
def frameEligible (s : State) : Bool :=
  decide (s.tick % delay s.speed = 0)

/-- The press is of the button that is already active (R54, R55). -/
def pressesActive (b : ButtonId) (s : State) : Bool :=
  s.actValid && decide (s.actBtn = b)

/-- A layer is lit when its mask is not zero (R66, D19). -/
def lit (m : Mask) : Bool :=
  decide (m ≠ 0#12)

end Sys2Proof.Machine
end

