-- ==== Sys2Proof/Machine/Debouncer.lean ====
section
/-! DEFINITION. The Debouncer's state change (R48). Its test stands in Flags.lean (R47). -/

namespace Sys2Proof.Machine

/-- `Debouncer.record(b)` (R48). -/
def debouncerRecord (b : ButtonId) (s : State) : State :=
  setDebounce b s.tick s

end Sys2Proof.Machine
end

