-- ==== Sys2Proof/Machine/PatternGenerator.lean ====
section
/-! DEFINITION. The PatternGenerator (R62 to R67): a pure function of the active button and the matrix. -/

namespace Sys2Proof.Machine

/-- The chase of button0 on layer 0 (R64). -/
def chase (p : Params) (m0 : Mask) : Mask :=
  if m0 = 0#12 then p.chaseSeed else shr12 m0

/-- The sparse pulse of button1 on layer 1 (R65). -/
def sparse (p : Params) (m1 : Mask) : Mask :=
  if m1 = 0#12 then p.sparseSeed
  else if m1 = p.sparseEnd then 0#12
  else shr12 m1

/-- The rising fill of button2 (R66); unchanged where two or three layers are lit (R67). -/
def fill (p : Params) (m : LedMatrix) : LedMatrix :=
  match lit m.m0, lit m.m1, lit m.m2 with
  | false, false, false => { m0 := 0#12, m1 := 0#12, m2 := p.full }
  | false, false, true => { m0 := 0#12, m1 := p.full, m2 := 0#12 }
  | false, true, false => { m0 := p.full, m1 := 0#12, m2 := 0#12 }
  | true, false, false => LedMatrix.zero
  | _, _, _ => m

/-- `PatternGen(act_valid, act_btn, m)` (R62); unchanged where no button is active (R63, R67). -/
def patternGen (p : Params) (actValid : Bool) (actBtn : ButtonId) (m : LedMatrix) : LedMatrix :=
  if actValid then
    match actBtn with
    | .button0 => { m with m0 := chase p m.m0 }
    | .button1 => { m with m1 := sparse p m.m1 }
    | .button2 => fill p m
  else m

end Sys2Proof.Machine
end

