-- ==== Sys2Proof/Machine/ModeController.lean ====
section
/-! DEFINITION. The ModeController: the transition on an accepted press (R53 to R56) and the transition on a logical
tick (R57 to R61). -/

namespace Sys2Proof.Machine

/-- `speed_up()` (R54): used where `speed` is 0 or 1, so that the sum does not wrap. -/
def speedUp (s : State) : State :=
  setMode s.actValid s.actBtn (s.speed + 1) s

/-- `turn_off()` (R55). -/
def turnOff (s : State) : State :=
  setMode false .button0 0 (setMatrix LedMatrix.zero s)

/-- `switch_to(b)` (R56). -/
def switchTo (b : ButtonId) (s : State) : State :=
  setMode true b 0 (setMatrix LedMatrix.zero s)

/-- `ModeController.press(b)`: an accepted press selects one of the three transitions. -/
def press (b : ButtonId) (s : State) : State :=
  if pressesActive b s then
    if s.speed = 2 then turnOff s else speedUp s
  else switchTo b s

/-- `publish(l)` (R60): under LAST_PUBLISHED it selects the layer; under ROUND_ROBIN it writes nothing. -/
def publish (l : Layer) (s : State) : State :=
  match s.params.layerPolicy with
  | .lastPublished => setSelLayer l s
  | .roundRobin => s

/-- `publish` for each layer of a list, in order (R59). -/
def publishAll : List Layer → State → State
  | [], s => s
  | l :: ls, s => publishAll ls (publish l s)

/-- One animation frame (R59): generate, then publish each layer once in PUBLISH_ORDER. -/
def frame (s : State) : State :=
  publishAll s.params.publishOrder.val
    (setMatrix (patternGen s.params s.actValid s.actBtn s.matrix) s)

/-- The increment of the tick counter (R57). -/
def countTick (s : State) : State :=
  setTick (tickSucc s.params s.tick) s

/-- The transition on a logical tick: the increment first (R57, D8), then a frame if the new value is eligible (R58);
otherwise nothing more (R61). -/
def logicalTick (s : State) : State :=
  let s := countTick s
  if frameEligible s then frame s else s

end Sys2Proof.Machine
end

