-- ==== Sys2Proof/Machine/Multiplexer.lean ====
section
/-! DEFINITION. The DutyCycleMultiplexer (R69 to R76). -/

namespace Sys2Proof.Machine

/-- `select_layer()` under ROUND_ROBIN (R72): the next non-zero layer in cyclic order, the current one last; unchanged
where all three are zero. -/
def nextLitLayer (m : LedMatrix) (l : Layer) : Layer :=
  if matrixRead m (l + 1) ≠ 0#12 then l + 1
  else if matrixRead m (l + 2) ≠ 0#12 then l + 2
  else l

/-- `select_layer()`: nothing under LAST_PUBLISHED (R71), the next lit layer under ROUND_ROBIN (R72). -/
def selectLayer (s : State) : State :=
  match s.params.layerPolicy with
  | .lastPublished => s
  | .roundRobin => setSelLayer (nextLitLayer s.matrix s.selLayer) s

/-- What the scan of `fire_subset` carries from position to position: `f`, `n` and `last` (R74). -/
structure FireScan where
  fired : Mask
  taken : Nat
  last : BitPos
deriving DecidableEq, Repr

/-- One iteration of the scan, at the position `k` places after the cursor, modulo 12 (R74). -/
def fireStep (t : Mask) (c : BitPos) (a : FireScan) (k : BitPos) : FireScan :=
  if a.taken < maxFiredLeds ∧ testBit t (c + k) = true then
    { fired := setBit a.fired (c + k), taken := a.taken + 1, last := c + k }
  else a

/-- The whole scan: the twelve positions once, upwards from the cursor (R74, D20). -/
def fireScan (t : Mask) (c : BitPos) : FireScan :=
  bitPositions.foldl (fireStep t c) { fired := 0#12, taken := 0, last := c }

/-- `fire_subset(t, c)` (R74): the fired mask and the last position taken. -/
def fireSubset (t : Mask) (c : BitPos) : Mask × BitPos :=
  ((fireScan t c).fired, (fireScan t c).last)

/-- Break before make: all LED outputs off, then all ground lines off (R70, D22). -/
def breakOutputs (s : State) : State :=
  outGnd 0#3 (outLed 0#12 s)

/-- The strobe's second half, for a target mask that is not zero: take the subset (R74), move the cursor just past the
last position taken (R75), drive the LEDs, then the layer's ground line (R76). -/
def fireLayer (t : Mask) (s : State) : State :=
  let shot := fireSubset t s.muxCursor
  outGnd (onehot3 s.selLayer) (outLed shot.1 (setMuxCursor (shot.2 + 1) s))

/-- `Multiplexer.strobe()` (R69): with a zero target mask the outputs stay off and the cursor stays (R73). -/
def strobe (s : State) : State :=
  let s := selectLayer (breakOutputs s)
  let t := matrixRead s.matrix s.selLayer
  if t = 0#12 then s else fireLayer t s

end Sys2Proof.Machine
end

