-- ==== Sys2Proof/Machine/Events.lean ====
section
/-! DEFINITION. The meaning of each event (R41 to R45, R96). Every one of them answers a next state in every state
(R46). -/

namespace Sys2Proof.Machine

/-- IDLE changes nothing (R41). -/
def execIdle (s : State) : Host.Outcome State Fault Refusal :=
  .next s

/-- RESET (R96): every register to its reset value, all at once, and the output trace emptied. The parameters are not
affected, and the environment's later inputs are not the block's to discard (log entry 10). -/
def execReset (s : State) : Host.Outcome State Fault Refusal :=
  .next (resetState s.params s.inputs)

/-- HTICK (R44): the AudioStreamer first (R84, D24), then the multiplexer's strobe. -/
def execHtick (s : State) : Host.Outcome State Fault Refusal :=
  .next (strobe (audioTick s))

/-- LTICK (R43). -/
def execLtick (s : State) : Host.Outcome State Fault Refusal :=
  .next (logicalTick s)

/-- BTN b (R42): an accepted edge is recorded and pressed (R48, R54 to R56); a rejected one has no effect (R49). -/
def execBtn (b : ButtonId) (s : State) : Host.Outcome State Fault Refusal :=
  if debouncerAccepts s then .next (press b (debouncerRecord b s)) else .next s

end Sys2Proof.Machine
end

