-- ==== Sys2Proof/Machine/Dispatch.lean ====
section
/-! DEFINITION. The dispatch: one arm per event of R33. -/

namespace Sys2Proof.Machine
open Sys2Proof

-- The rows of spec/opcode_table.json, in its order.
def exec (i : Instr) (s : State) : Host.Outcome State Fault Refusal :=
  match i with
  | .idle => Sys2Proof.Machine.execIdle s
  | .reset => Sys2Proof.Machine.execReset s
  | .htick => Sys2Proof.Machine.execHtick s
  | .ltick => Sys2Proof.Machine.execLtick s
  | .btn b => Sys2Proof.Machine.execBtn b s

end Sys2Proof.Machine
end

