-- ==== Sys2Proof/Decode.lean ====
section
/-! DEFINITION. The event word (R34 to R36): the decoder, total on the sixteen words, and the encoder, each written from
the match and mask columns of R34. -/

namespace Sys2Proof

/-- What the decoder answers: an event, or `invalid`, with the reserved word (R36). -/
inductive Decoded where
  | event (i : Instr)
  | invalid (w : EventWord)
deriving DecidableEq, Repr

/-- The class field `cls = ev[3:2]` (R34). -/
def eventClass (w : EventWord) : BitVec 2 :=
  w.extractLsb' 2 2

/-- The operand field `b = ev[1:0]` (R34). -/
def operandField (w : EventWord) : BitVec 2 :=
  w.extractLsb' 0 2

/-- The button a two-bit field names: the digit of its name (R35); 3 names none (R36). -/
def buttonOfField (b : BitVec 2) : Option ButtonId :=
  if b = 0#2 then some .button0
  else if b = 1#2 then some .button1
  else if b = 2#2 then some .button2
  else none

/-- The two-bit number of a button (R35). -/
def buttonField : ButtonId → BitVec 2
  | .button0 => 0#2
  | .button1 => 1#2
  | .button2 => 2#2

/-- The decoder (R34, R36). -/
def decode (w : EventWord) : Decoded :=
  if w &&& 0xF#4 = 0x0#4 then .event .idle
  else if w &&& 0xF#4 = 0x1#4 then .event .reset
  else if w &&& 0xF#4 = 0x4#4 then .event .htick
  else if w &&& 0xF#4 = 0x8#4 then .event .ltick
  else if w &&& 0xC#4 = 0xC#4 then
    match buttonOfField (operandField w) with
    | some b => .event (.btn b)
    | none => .invalid w
  else .invalid w

/-- The encoder (R34, R35). -/
def encode : Instr → EventWord
  | .idle => 0x0#4
  | .reset => 0x1#4
  | .htick => 0x4#4
  | .ltick => 0x8#4
  | .btn b => 0b11#2 ++ buttonField b

/-- The event that the decoder reads from an opcode-table row's word `w`. The block's word has four bits (R34): a number
with a bit above bit 3 is no event word. Log entry 16. -/
def decodeTableWord (_nbits w : Nat) : Option Instr :=
  if w < 16 then
    match decode (BitVec.ofNat 4 w) with
    | .event i => some i
    | .invalid _ => none
  else none

end Sys2Proof
end

