-- ==== Sys2Proof/Machine/Operands.lean ====
section
/-! DEFINITION. The forms an event comes in beside its mnemonic: the strobe vector of the port level and its expansion
to events (R37, R89). The operand of BTN, the only operand field (R34), is read by the decoder. -/

namespace Sys2Proof.Machine

/-- The strobe vector sampled at one clock edge, `{rst, btn[2], btn[1], btn[0], log_tick, hr_tick}` (R37). -/
def strobeVector (rst : Bool) (btn : BitVec 3) (logTick hrTick : Bool) : StrobeVector :=
  BitVec.ofBool rst ++ btn ++ BitVec.ofBool logTick ++ BitVec.ofBool hrTick

/-- `[e]` if the strobe bit `i` is set, else nothing. -/
def strobed (sv : StrobeVector) (i : Nat) (e : Instr) : List Instr :=
  if sv.getLsbD i then [e] else []

/-- `expand(sv)` (R37): the events of one strobe vector in the fixed order (D4); `rst` overrides the other five bits. -/
def expand (sv : StrobeVector) : List Instr :=
  if sv.getLsbD 5 then [.reset]
  else
    let seq := strobed sv 0 .htick ++ strobed sv 1 .ltick ++ strobed sv 2 (.btn .button0)
      ++ strobed sv 3 (.btn .button1) ++ strobed sv 4 (.btn .button2)
    if seq = [] then [.idle] else seq

/-- The events of a strobe vector as inputs. -/
def expandInputs (sv : StrobeVector) : List Input :=
  (expand sv).map fun e => .word (encode e)

end Sys2Proof.Machine
end

