-- ==== Sys2Proof/Machine/Fetch.lean ====
section
/-! DEFINITION. Taking the next event from the environment's inputs (R2, R37). The block fetches nothing from a memory
(R18): an event word is delivered, or comes from the expansion of a delivered strobe vector. -/

namespace Sys2Proof.Machine

/-- The next event word and the inputs that remain. With no input the word is IDLE's (R41). Of a strobe vector, the
first event is taken and the others stand before everything else that is delivered, so that all of them are processed
before the next strobe vector (R37). `expand` is never empty. -/
def takeWord : List Input → EventWord × List Input
  | [] => (encode .idle, [])
  | .word w :: rest => (w, rest)
  | .strobe sv :: rest =>
    match expandInputs sv with
    | .word w :: more => (w, more ++ rest)
    | _ => (encode .idle, rest)

/-- The state with the inputs `ins`. -/
def setInputs (ins : List Input) (s : State) : State :=
  { s with inputs := ins }

/-- The event word the next step processes. -/
def nextWord (s : State) : EventWord :=
  (takeWord s.inputs).1

/-- The state in which that event is processed: the word is taken from the inputs. -/
def afterTake (s : State) : State :=
  setInputs (takeWord s.inputs).2 s

end Sys2Proof.Machine
end

