-- ==== Sys2Proof/Machine/Step.lean ====
section
/-! DEFINITION. One step of the machine is one event (R2, R88): take the next word, decode it, run its event; a reserved
word is refused by name (R36). -/

namespace Sys2Proof.Machine

/-- One step. -/
def step (s : State) : Host.Outcome State Fault Refusal :=
  match decode (nextWord s) with
  | .event i => exec i (afterTake s)
  | .invalid w => .refused (.reservedEventWord w)

/-- `s` with the event word of a table row, `w`, as the first input, so that the next step processes it and is then back
at the inputs of `s`. The event port has four bits (R34). Log entries 2 and 16. -/
def State.withFetchWord (s : State) (_nbits w : Nat) : State :=
  setInputs (.word (BitVec.ofNat 4 w) :: s.inputs) s

end Sys2Proof.Machine
end

