-- ==== Sys2Proof/Machine/Ports.lean ====
section
/-! DEFINITION. The output ports (R37, R39) and the bit encodings of the state fields (R38). No event reads them. -/

namespace Sys2Proof.Machine

/-- The output ports at one moment: `led[11:0]`, `gnd[2:0]`, and `tone[7:0]`, which is present only where HAS_AUDIO
(R37). -/
structure OutputPorts where
  led : Mask
  gnd : GroundLines
  tone : Option Byte
deriving DecidableEq, Repr

/-- The ports show the output registers (R16, R37). -/
def outputPorts (s : State) : OutputPorts where
  led := s.ledOut
  gnd := s.gndOut
  tone := if s.params.hasAudio then some s.toneOut else none

/-- The width of `audio_cursor`: ceil(log2(PCM_LEN)), at least 1 (R7). -/
def audioCursorWidth (p : Params) : Nat :=
  if pcmLen p ≤ 2 then 1 else Nat.log2 (pcmLen p - 1) + 1

/-- `tick` as a TICK_W-bit number (R38). -/
def tickBits (s : State) : BitVec s.params.tickWidth.val :=
  BitVec.ofNat s.params.tickWidth.val s.tick

/-- `db_last_tick` as a TICK_W-bit number (R38). -/
def dbLastTickBits (s : State) : BitVec s.params.tickWidth.val :=
  BitVec.ofNat s.params.tickWidth.val s.dbLastTick

/-- `db_last_btn`: the ButtonId of R35 (R38). -/
def dbLastBtnBits (s : State) : BitVec 2 :=
  buttonField s.dbLastBtn

/-- `act_valid` (R38). -/
def actValidBits (s : State) : BitVec 1 :=
  BitVec.ofBool s.actValid

/-- `act_btn` (R38). -/
def actBtnBits (s : State) : BitVec 2 :=
  buttonField s.actBtn

/-- `speed`: the ordinal itself (R38). -/
def speedBits (s : State) : BitVec 2 :=
  BitVec.ofNat 2 s.speed.val

/-- `sel_layer`: the layer index itself (R38). -/
def selLayerBits (s : State) : BitVec 2 :=
  BitVec.ofNat 2 s.selLayer.val

/-- `mux_cursor`: a bit position (R38). -/
def muxCursorBits (s : State) : BitVec 4 :=
  BitVec.ofNat 4 s.muxCursor.val

/-- `audio_cursor`: the index itself; `none` where the register does not exist (R15, R38, R80). -/
def audioCursorBits (s : State) : Option (BitVec (audioCursorWidth s.params)) :=
  if s.params.hasAudio then some (BitVec.ofNat _ s.audioCursor) else none

end Sys2Proof.Machine
end

