-- ==== Sys2Proof/Machine/Run.lean ====
section
/-! DEFINITION. Sequences of events (R28) and their delivery to the block as event words (R34) or strobe vectors
(R37). -/

namespace Sys2Proof.Machine

/-- The events one after another from `s`, each on the state that the one before it left (R28). -/
def runEvents : List Instr → State → Host.Outcome State Fault Refusal
  | [], s => .next s
  | e :: es, s =>
    match exec e s with
    | .next t => runEvents es t
    | .fault r => .fault r
    | .refused r => .refused r

/-- `s` with these events delivered, as their words, before what is already waiting. -/
def deliverEvents (es : List Instr) (s : State) : State :=
  setInputs (es.map (fun e => .word (encode e)) ++ s.inputs) s

/-- `s` with these strobe vectors sampled, in order, before what is already waiting. -/
def deliverStrobes (svs : List StrobeVector) (s : State) : State :=
  setInputs (svs.map .strobe ++ s.inputs) s

end Sys2Proof.Machine
end

