-- ==== Sys2Proof/Machine/Trace.lean ====
section
/-! DEFINITION. Traces (R40): the reading of a trace text, the expansion of its pseudo-events to events, and its encoding
as event words. A text is a list of characters. Log entry 15 says what the grammar of R40 leaves open. -/

namespace Sys2Proof.Machine

/-! The expansion and the encoding of items -/

/-- The events an item stands for (R40). -/
def expandItem : TraceItem → List Instr
  | .event i => [i]
  | .rep n item => (List.replicate n (expandItem item)).flatten
  | .wait n => List.replicate n .ltick
  | .refresh n => List.replicate n .htick
  | .strobe sv => expand sv

/-- The events of a trace, in order. -/
def expandTrace (items : List TraceItem) : List Instr :=
  items.flatMap expandItem

/-- The encoding of a trace: one event word per event after expansion (R40). -/
def encodeTrace (items : List TraceItem) : List EventWord :=
  (expandTrace items).map encode

/-- The events of a sequence of event words; `none` where one of them is reserved: such a sequence is no trace of this
machine (R36). -/
def decodeWords : List EventWord → Option (List Instr)
  | [] => some []
  | w :: ws =>
    match decode w, decodeWords ws with
    | .event i, some is => some (i :: is)
    | _, _ => none

/-! The text -/

/-- The pieces of a text between the occurrences of `sep`. -/
def splitChars (sep : Char) : List Char → List (List Char)
  | [] => [[]]
  | c :: cs =>
    if c = sep then [] :: splitChars sep cs
    else
      match splitChars sep cs with
      | [] => [[c]]
      | w :: ws => (c :: w) :: ws

/-- The words of an item: separated by spaces, a comma being a word of its own. DESIGN CHOICE (log entry 15): R40 asks for
a space before the operand of `BTN` only, and here `REP`, `WAIT`, `REFRESH` and `STROBE` need one before theirs too. -/
def itemWords (cs : List Char) : List (List Char) :=
  (splitChars ' ' (cs.flatMap fun c => if c = ',' then [' ', ',', ' '] else [c])).filter (· ≠ [])

/-- The value of a decimal digit. -/
def digitValue (c : Char) : Option Nat :=
  if '0' ≤ c ∧ c ≤ '9' then some (c.toNat - '0'.toNat) else none

/-- The decimal digits `cs` after a number `n` that is already read. -/
def readDigits : List Char → Nat → Option Nat
  | [], n => some n
  | c :: cs, n =>
    match digitValue c with
    | some d => readDigits cs (10 * n + d)
    | none => none

/-- A decimal integer, at least one digit. -/
def readNat (cs : List Char) : Option Nat :=
  if cs = [] then none else readDigits cs 0

/-- Binary digits, most significant first, after a number that is already read. -/
def readBinary : List Char → Nat → Option Nat
  | [], n => some n
  | c :: cs, n =>
    if c = '0' then readBinary cs (2 * n)
    else if c = '1' then readBinary cs (2 * n + 1)
    else none

/-- `0b` followed by six binary digits, most significant first. -/
def readStrobe : List Char → Option StrobeVector
  | '0' :: 'b' :: ds => if ds.length = 6 then (readBinary ds 0).map (BitVec.ofNat 6) else none
  | _ => none

/-- The operand of `BTN`: one digit, 0, 1 or 2. -/
def readButton : List Char → Option ButtonId
  | ['0'] => some .button0
  | ['1'] => some .button1
  | ['2'] => some .button2
  | _ => none

/-- An item of one word. -/
def readBare (w : List Char) : Option TraceItem :=
  if w = "RESET".toList then some (.event .reset)
  else if w = "IDLE".toList then some (.event .idle)
  else if w = "HTICK".toList then some (.event .htick)
  else if w = "LTICK".toList then some (.event .ltick)
  else none

/-- An item of a word and its operand. -/
def readUnary (w a : List Char) : Option TraceItem :=
  if w = "BTN".toList then (readButton a).map fun b => .event (.btn b)
  else if w = "WAIT".toList then (readNat a).map .wait
  else if w = "REFRESH".toList then (readNat a).map .refresh
  else if w = "STROBE".toList then (readStrobe a).map .strobe
  else none

/-- An item, from its words. -/
def readItem : List (List Char) → Option TraceItem
  | [w] => readBare w
  | [w, a] => readUnary w a
  | w :: a :: comma :: item =>
    if w = "REP".toList ∧ comma = [','] then
      match readNat a, readItem item with
      | some n, some i => some (.rep n i)
      | _, _ => none
    else none
  | _ => none

/-- All of a list of answers, `none` where one is missing. -/
def allSome {α : Type} : List (Option α) → Option (List α)
  | [] => some []
  | some a :: rest => (allSome rest).map (a :: ·)
  | none :: _ => none

/-- One line: the items between the semicolons, or none at all, before a comment. -/
def readLine (line : List Char) : Option (List TraceItem) :=
  let text := line.takeWhile (· ≠ '#')
  if text.all (· = ' ') then some []
  else allSome ((splitChars ';' text).map fun item => readItem (itemWords item))

/-- A trace text; `none` where it is not one. -/
def readTrace (text : List Char) : Option (List TraceItem) :=
  (allSome ((splitChars '\n' text).map readLine)).map List.flatten

end Sys2Proof.Machine
end

