-- ==== Sys2Proof/Safety.lean ====
section
/-! DEFINITION. What the environment may rely on: the held outputs along an output trace (R16, R31), the current budget
(R77, R78, R102), break before make (R70, R101), and the invariants of the reachable states (R20). -/

namespace Sys2Proof.Machine

/-! The outputs along a trace -/

/-- The three output registers as the external drivers see them between two writes. -/
structure Pins where
  led : Mask
  gnd : GroundLines
  tone : Byte
deriving DecidableEq, Repr

/-- The outputs after reset, before any write (R17). -/
def Pins.atReset : Pins := { led := 0#12, gnd := 0#3, tone := 0#8 }

/-- The outputs after one more write. -/
def Pins.write (p : Pins) : Output → Pins
  | .led v => { p with led := v }
  | .gnd v => { p with gnd := v }
  | .tone v => { p with tone := v }

/-- The outputs after all the writes of a trace. -/
def pinsAfter (p : Pins) (writes : List Output) : Pins :=
  writes.foldl Pins.write p

/-- The outputs a state holds. -/
def pinsOf (s : State) : Pins := { led := s.ledOut, gnd := s.gndOut, tone := s.toneOut }

/-- The current budget: at most MAX_FIRED_LEDS LED lines are energised and at most one ground line is asserted (R77,
R78, R102). -/
def Pins.withinBudget (p : Pins) : Prop :=
  popcount12 p.led ≤ 6 ∧ (p.gnd = 0#3 ∨ ∃ l : Layer, p.gnd = onehot3 l)

/-- A write keeps break before make (R70, R101): while a ground line is asserted, the LED outputs are written only to be
switched off; and a ground line is asserted only from all ground lines off. -/
def Pins.breaksBeforeMake (p : Pins) : Output → Prop
  | .led v => p.gnd = 0#3 ∨ v = 0#12
  | .gnd v => p.gnd = 0#3 ∨ v = 0#3
  | .tone _ => True

/-- From the outputs `p` on, every write of the trace keeps break before make and leaves outputs within the current
budget. -/
def SafeWrites : Pins → List Output → Prop
  | _, [] => True
  | p, w :: ws => p.breaksBeforeMake w ∧ (p.write w).withinBudget ∧ SafeWrites (p.write w) ws

/-- The output side of a state: its trace is safe from reset on, and the registers hold what the trace last wrote
(R16). -/
def OutputsSafe (s : State) : Prop :=
  SafeWrites Pins.atReset s.trace ∧ pinsOf s = pinsAfter Pins.atReset s.trace

/-! The reachable states (R20) -/

/-- R20 item 1 with R7's widths, for the registers whose type does not give the range: `tick` and `db_last_tick` are
TICK_W-bit numbers and `audio_cursor` is an index of the table. -/
def RegistersInRange (s : State) : Prop :=
  s.tick < tickModulus s.params ∧ s.dbLastTick < tickModulus s.params ∧ s.audioCursor < pcmLen s.params

/-- The parameters of the patterns have the defaults of R5. -/
def DefaultPatterns (p : Params) : Prop :=
  p.chaseSeed = 0x800#12 ∧ p.sparseSeed = 0x924#12 ∧ p.sparseEnd = 0x249#12 ∧ p.full = 0xFFF#12

/-- R20 items 2 to 5: what the matrix holds in each mode. -/
def MatrixOfMode (s : State) : Prop :=
  (s.actValid = false → s.actBtn = .button0 ∧ s.speed = 0 ∧ s.matrix = LedMatrix.zero) ∧
  (s.actValid = true → s.actBtn = .button0 →
    s.matrix.m1 = 0#12 ∧ s.matrix.m2 = 0#12 ∧ popcount12 s.matrix.m0 ≤ 1) ∧
  (s.actValid = true → s.actBtn = .button1 →
    s.matrix.m0 = 0#12 ∧ s.matrix.m2 = 0#12 ∧ s.matrix.m1 ∈ [0x000#12, 0x924#12, 0x492#12, 0x249#12]) ∧
  (s.actValid = true → s.actBtn = .button2 →
    s.matrix ∈ [LedMatrix.zero, ⟨0#12, 0#12, 0xFFF#12⟩, ⟨0#12, 0xFFF#12, 0#12⟩, ⟨0xFFF#12, 0#12, 0#12⟩])

/-- R20 item 6: the current budget holds of the output registers, and no ground line is asserted without an LED. -/
def OutputsOfState (s : State) : Prop :=
  (pinsOf s).withinBudget ∧ (s.gndOut ≠ 0#3 → s.ledOut ≠ 0#12)

/-- The invariants of R20, items 1 to 6 (item 7 speaks of the past and not of one state), with the default patterns that
items 3 to 5 take for granted. -/
def ReachableInv (s : State) : Prop :=
  DefaultPatterns s.params ∧ RegistersInRange s ∧ MatrixOfMode s ∧ OutputsOfState s

/-! Conditions of the rules, in the spec's own words, that the statements speak of -/

/-- The debounce window is open: at least 5 logical ticks since the last accepted press, modulo 2^TICK_W (R47). -/
def WindowOpen (s : State) : Prop :=
  5 ≤ ((s.tick : Int) - (s.dbLastTick : Int)) % (2 : Int) ^ s.params.tickWidth.val

/-- The value of `tick` after the next logical tick (R57). -/
def nextTick (s : State) : Nat :=
  (s.tick + 1) % 2 ^ s.params.tickWidth.val

/-- The next logical tick is eligible for a frame: 2, 4 or 8, by the speed, divides the new value of `tick` (R58). -/
def NextTickEligible (s : State) : Prop :=
  nextTick s % 2 ^ (s.speed.val + 1) = 0

/-- The layer `l` is the one the next strobe selects (R71, R72): under LAST_PUBLISHED the selected layer; under
ROUND_ROBIN the first one after it, in cyclic order and itself last, whose mask is not zero. -/
def SelectedNext (s : State) (l : Layer) : Prop :=
  match s.params.layerPolicy with
  | .lastPublished => l = s.selLayer
  | .roundRobin => matrixRead s.matrix l ≠ 0#12 ∧
      ((l = s.selLayer + 1) ∨
       (l = s.selLayer + 2 ∧ matrixRead s.matrix (s.selLayer + 1) = 0#12) ∨
       (l = s.selLayer ∧ matrixRead s.matrix (s.selLayer + 1) = 0#12 ∧
         matrixRead s.matrix (s.selLayer + 2) = 0#12))

/-- The next strobe leaves the outputs off (R73): the target mask is zero, which under ROUND_ROBIN means that all three
masks are (R72). -/
def NextStrobeDark (s : State) : Prop :=
  match s.params.layerPolicy with
  | .lastPublished => matrixRead s.matrix s.selLayer = 0#12
  | .roundRobin => s.matrix = LedMatrix.zero

/-- The sample at the cursor (R81), in the table's own order. -/
def sampleAtCursor (s : State) : Option Byte :=
  (s.params.pcm.first :: s.params.pcm.rest)[s.audioCursor]?

/-- The samples written to the tone output, in order, among some output writes. -/
def toneWrites : List Output → List Byte
  | [] => []
  | .tone v :: ws => v :: toneWrites ws
  | _ :: ws => toneWrites ws

/-- How many of the `k` positions from the cursor `c` upwards, modulo 12, are set in `t` (R74). -/
def setBitsBefore (t : Mask) (c : BitPos) (k : Nat) : Nat :=
  (bitPositions.take k).countP fun j => testBit t (c + j)

/-- The ModeController is in the state Idle (R53). -/
abbrev IsIdle (s : State) : Prop :=
  s.actValid = false ∧ s.actBtn = .button0 ∧ s.speed = 0

/-- The ModeController is in the state Active(b, sp) (R53). -/
abbrev IsActive (b : ButtonId) (sp : Speed) (s : State) : Prop :=
  s.actValid = true ∧ s.actBtn = b ∧ s.speed = sp

end Sys2Proof.Machine
end

