-- ==== Sys2Proof/WellFormed.lean ====
section
/-! DEFINITION. The checks on raw values. An event's operand is drawn from a closed enumeration (R35, R85), so every
term of `Instr` is well-formed by its type; what can be ill-formed is what stands before the type: an event word (R36),
a two-bit button field (R36), and the raw values of the parameters (R5, V10). -/

namespace Sys2Proof

/-- The event word names an event: it is none of the nine reserved words (R36). -/
def eventWordOk (w : EventWord) : Bool :=
  !([0x2#4, 0x3#4, 0x5#4, 0x6#4, 0x7#4, 0x9#4, 0xA#4, 0xB#4, 0xF#4].contains w)

/-- The operand field of class `0b11` names a button: 3 names none (R34, R36). -/
def buttonFieldOk (b : BitVec 2) : Bool :=
  b != 3#2

/-- What the environment delivers is well-formed: a legal event word, or any strobe vector (R36, R37). -/
def Input.wellFormed : Input → Bool
  | .word w => eventWordOk w
  | .strobe _ => true

/-- The parameter TICK_W from a raw number: `none` below 4 (R5, V10). -/
def TickWidth.ofNat? (w : Nat) : Option TickWidth :=
  if h : 4 ≤ w then some ⟨w, h⟩ else none

/-- The parameters PCM_LEN and PCM from raw bytes: `none` for PCM_LEN = 0 (R5, V10). -/
def PcmTable.ofBytes? : List Byte → Option PcmTable
  | [] => none
  | b :: bs => some { first := b, rest := bs }

/-- The parameter PUBLISH_ORDER from a raw list: `none` unless it is a permutation of (0, 1, 2) (R5, V10). -/
def PublishOrder.ofList? (order : List Layer) : Option PublishOrder :=
  if h : order.length = 3 ∧ order.Nodup then some ⟨order, h⟩ else none

end Sys2Proof
end

