-- ==== Sys2Proof/Certificates/Slice0/Obligations.lean ====
section
/-! DEFINITION. The statements for the provers, each from the rules of spec/. A statement about every state holds in
states that no run reaches, unless a premise says otherwise. -/

open Sys2Proof Sys2Proof.Machine

/-! ## Event words, strobe vectors and traces -/

/-- When a delivered event word decodes to an event, the step is that event's meaning, on the state from whose inputs
the word is taken (R2, R34, R88). That the inputs stand in the state is the model's choice (log entry 2). -/
def Obligations.StepRunsTheDecodedEvent : Prop :=
  ∀ (s : State) (w : EventWord) (rest : List Input) (i : Instr),
    s.inputs = .word w :: rest → decode w = .event i →
      step s = exec i { s with inputs := rest }

/-- With no input waiting, the step is IDLE and changes nothing (R41). That an empty list of inputs stands for the
absence of an event is the model's choice (log entry 2). -/
def Obligations.StepWithoutInputChangesNothing : Prop :=
  ∀ s : State, s.inputs = [] → step s = .next s

/-- R36, R37: the decoder answers invalid for exactly the nine reserved words, the step refuses such a word, and the ports
cannot produce one: of a sampled strobe vector the next step takes a word that names an event, and what then waits before
the later inputs is legal words only. That the inputs stand in the state (log entry 2), that a step takes the first event
of a strobe vector and the others wait before the later inputs (log entry 13), and the form of the refusal (log entry 12)
are the model's. -/
def Obligations.ReservedWordsAreRefused : Prop :=
  (∀ w : EventWord,
    (w ∈ [0x2#4, 0x3#4, 0x5#4, 0x6#4, 0x7#4, 0x9#4, 0xA#4, 0xB#4, 0xF#4] ↔ decode w = .invalid w) ∧
    (decode w = .invalid w ∨ ∃ i, decode w = .event i)) ∧
  (∀ (s : State) (w : EventWord) (rest : List Input),
    w ∈ [0x2#4, 0x3#4, 0x5#4, 0x6#4, 0x7#4, 0x9#4, 0xA#4, 0xB#4, 0xF#4] → s.inputs = .word w :: rest →
      step s = .refused (.reservedEventWord w)) ∧
  (∀ (s : State) (sv : StrobeVector) (rest : List Input), s.inputs = .strobe sv :: rest →
    ∃ i more, decode (nextWord s) = .event i ∧ (afterTake s).inputs = more ++ rest ∧
      ∀ x ∈ more, ∃ w, x = .word w ∧ eventWordOk w = true)

/-- The seven legal words of R34's table, with the buttons numbered as R35 says. -/
def Obligations.LegalWordsDecodeAsTheTable : Prop :=
  decode 0b0000#4 = .event .idle ∧ decode 0b0001#4 = .event .reset ∧
  decode 0b0100#4 = .event .htick ∧ decode 0b1000#4 = .event .ltick ∧
  decode 0b1100#4 = .event (.btn .button0) ∧ decode 0b1101#4 = .event (.btn .button1) ∧
  decode 0b1110#4 = .event (.btn .button2)

/-- The decoder and the encoder agree, both ways (R34, R35). -/
def Obligations.DecodeAndEncodeAgree : Prop :=
  ∀ (i : Instr) (w : EventWord), decode w = .event i ↔ encode i = w

/-- A sequence of event words is the encoding of a sequence of events exactly when it decodes to it, whatever the
length (R36, R40). -/
def Obligations.TraceWordsDecodeToTheirEvents : Prop :=
  (∀ (ws : List EventWord) (is : List Instr), decodeWords ws = some is ↔ is.map encode = ws) ∧
  (∀ (ws : List EventWord), decodeWords ws = none ↔ ∃ w ∈ ws, eventWordOk w = false)

/-- The pseudo-events stand for the events R40 says. -/
def Obligations.PseudoEventsExpand : Prop :=
  (∀ i, expandItem (.event i) = [i]) ∧
  (∀ item, expandItem (.rep 0 item) = []) ∧
  (∀ n item, expandItem (.rep (n + 1) item) = expandItem item ++ expandItem (.rep n item)) ∧
  (∀ n, expandItem (.wait n) = expandItem (.rep n (.event .ltick))) ∧
  (∀ n, expandItem (.refresh n) = expandItem (.rep n (.event .htick))) ∧
  (∀ sv, expandItem (.strobe sv) = expand sv) ∧
  (∀ item items, encodeTrace (item :: items) = (expandItem item).map encode ++ encodeTrace items)

/-- What a strobe vector expands to (R37): RESET alone where `rst` is set; IDLE where no bit is; otherwise one event for
each set strobe, in the order HTICK, LTICK, BTN 0, BTN 1, BTN 2. -/
def Obligations.StrobesExpandInFixedOrder : Prop :=
  ∀ (rst : Bool) (btn : BitVec 3) (logTick hrTick : Bool),
    let es := expand (strobeVector rst btn logTick hrTick)
    (rst = true → es = [.reset]) ∧
    (rst = false → btn = 0#3 → logTick = false → hrTick = false → es = [.idle]) ∧
    (rst = false → (btn ≠ 0#3 ∨ logTick = true ∨ hrTick = true) →
      es.Sublist [.htick, .ltick, .btn .button0, .btn .button1, .btn .button2] ∧
      (.htick ∈ es ↔ hrTick = true) ∧ (.ltick ∈ es ↔ logTick = true) ∧
      (.btn .button0 ∈ es ↔ btn.getLsbD 0 = true) ∧ (.btn .button1 ∈ es ↔ btn.getLsbD 1 = true) ∧
      (.btn .button2 ∈ es ↔ btn.getLsbD 2 = true))

/-- The port level refines the event level (R28, R37): sampling any sequence of strobe vectors and taking as many steps
as they hold events is running those events, vector by vector, each on the state the one before it left; and whatever is
delivered after them is still waiting. That the inputs stand in the state and a step takes one event is the model's choice
(log entries 2 and 13). -/
def Obligations.StrobeVectorsRunTheirEvents : Prop :=
  ∀ (svs : List StrobeVector) (s : State),
    Host.Core.run Sys2Proof.core (svs.flatMap expand).length (deliverStrobes svs s) =
      runEvents (svs.flatMap expand) s

/-- A trace delivered as its event words runs its events (R28, R40). That the inputs stand in the state is the model's
choice (log entry 2). -/
def Obligations.TraceRunsItsEvents : Prop :=
  ∀ (items : List TraceItem) (s : State),
    Host.Core.run Sys2Proof.core (encodeTrace items).length
        (setInputs ((encodeTrace items).map .word ++ s.inputs) s) =
      runEvents (expandTrace items) s

/-! ## The machine as a whole -/

/-- R46: every event is defined in every state and completes; a step never faults, and refuses nothing but a reserved
word. -/
def Obligations.EveryEventCompletes : Prop :=
  (∀ (i : Instr) (s : State), ∃ t, exec i s = .next t) ∧
  (∀ (s : State) (r : Fault), step s ≠ .fault r) ∧
  (∀ (s : State) (r : Refusal), step s = .refused r →
    eventWordOk (nextWord s) = false ∧ r = .reservedEventWord (nextWord s))

/-- Each register is changed only by the events whose component owns it (the owner column of R7; R8, R9, R13 to R16,
R42 to R44), and no event changes the parameters, the PCM table among them (R23, R96). That no event changes the inputs
is the model's choice (log entries 2 and 10). -/
def Obligations.OnlyOwnersChangeRegisters : Prop :=
  ∀ (i : Instr) (s t : State), exec i s = .next t →
    t.params = s.params ∧ t.inputs = s.inputs ∧
    (t.tick ≠ s.tick → i = .ltick ∨ i = .reset) ∧
    (t.dbLastTick ≠ s.dbLastTick ∨ t.dbLastBtn ≠ s.dbLastBtn → i = .reset ∨ (∃ b, i = .btn b) ∧ WindowOpen s) ∧
    (t.actValid ≠ s.actValid ∨ t.actBtn ≠ s.actBtn ∨ t.speed ≠ s.speed →
      i = .reset ∨ (∃ b, i = .btn b) ∧ WindowOpen s) ∧
    (t.matrix ≠ s.matrix → i = .reset ∨ ((∃ b, i = .btn b) ∧ WindowOpen s) ∨ i = .ltick ∧ NextTickEligible s) ∧
    (t.selLayer ≠ s.selLayer → i = .reset ∨
      (i = .ltick ∧ NextTickEligible s ∧ s.params.layerPolicy = .lastPublished) ∨
      (i = .htick ∧ s.params.layerPolicy = .roundRobin)) ∧
    (t.muxCursor ≠ s.muxCursor → i = .reset ∨ i = .htick ∧ ¬ NextStrobeDark s) ∧
    (t.audioCursor ≠ s.audioCursor ∨ t.toneOut ≠ s.toneOut → i = .reset ∨ i = .htick ∧ s.params.hasAudio = true) ∧
    (t.ledOut ≠ s.ledOut ∨ t.gndOut ≠ s.gndOut ∨ t.trace ≠ s.trace → i = .reset ∨ i = .htick)

/-- R41: IDLE is the identity on every state. -/
def Obligations.IdleChangesNothing : Prop :=
  ∀ s : State, exec .idle s = .next s

/-! ## Reset -/

/-- R45, R96: RESET, in any state, completes with every register at its reset value (R17) and the output trace empty;
the parameters are not affected; from the reset state it is the identity. -/
def Obligations.ResetClearsEveryRegister : Prop :=
  (∀ s : State, ∃ t, exec .reset s = .next t ∧
    t.params = s.params ∧
    t.tick = 0 ∧ t.dbLastTick = 0 ∧ t.dbLastBtn = .button0 ∧
    t.actValid = false ∧ t.actBtn = .button0 ∧ t.speed = 0 ∧
    t.matrix.m0 = 0#12 ∧ t.matrix.m1 = 0#12 ∧ t.matrix.m2 = 0#12 ∧
    t.selLayer = 0 ∧ t.muxCursor = 0 ∧ t.audioCursor = 0 ∧
    t.ledOut = 0x000#12 ∧ t.gndOut = 0b000#3 ∧ t.toneOut = 0x00#8 ∧
    t.trace = []) ∧
  exec .reset State.reset = .next State.reset

/-- R17: the state after reset holds zero in every register and an empty output trace. -/
def Obligations.ResetStateIsAllZero : Prop :=
  State.reset.tick = 0 ∧ State.reset.dbLastTick = 0 ∧ buttonField State.reset.dbLastBtn = 0#2 ∧
  State.reset.actValid = false ∧ buttonField State.reset.actBtn = 0#2 ∧ State.reset.speed = 0 ∧
  State.reset.matrix = ⟨0#12, 0#12, 0#12⟩ ∧ State.reset.selLayer = 0 ∧ State.reset.muxCursor = 0 ∧
  State.reset.audioCursor = 0 ∧ State.reset.ledOut = 0#12 ∧ State.reset.gndOut = 0#3 ∧
  State.reset.toneOut = 0#8 ∧ State.reset.trace = []

/-- The parameters of the machine after reset are the defaults of R5. That they stand in the state is the model's
choice (log entries 1 and 4). Of the PCM table, which has no default, nothing is said. -/
def Obligations.ResetParametersAreTheDefaults : Prop :=
  State.reset.params.tickWidth.val = 16 ∧ State.reset.params.hasAudio = true ∧
  State.reset.params.layerPolicy = .lastPublished ∧ State.reset.params.publishOrder.val = [0, 1, 2] ∧
  State.reset.params.chaseSeed = 0x800#12 ∧ State.reset.params.sparseSeed = 0x924#12 ∧
  State.reset.params.sparseEnd = 0x249#12 ∧ State.reset.params.full = 0xFFF#12

/-! ## BTN: the Debouncer and the press transition -/

/-- R54, R48: an accepted press of the active button at speed 0 or 1 adds 1 to the speed and is recorded, and changes
nothing else; the frame delay doubles. -/
def Obligations.PressOfActiveButtonSlowsDown : Prop :=
  ∀ (b : ButtonId) (s : State), WindowOpen s → s.actValid = true → s.actBtn = b → s.speed ≠ 2 →
    exec (.btn b) s =
      .next { s with dbLastBtn := b, dbLastTick := s.tick, speed := s.speed + 1 } ∧
    (s.speed + 1).val = s.speed.val + 1 ∧ delay (s.speed + 1) = 2 * delay s.speed

/-- R55: an accepted press of the active button at speed 2 clears the matrix, the speed and the active button, and is
recorded (R48); it changes nothing else, the outputs among it. The next HTICK finds the matrix zero and leaves the
outputs off. -/
def Obligations.PressAtSpeedTwoTurnsOff : Prop :=
  ∀ (b : ButtonId) (s : State), WindowOpen s → s.actValid = true → s.actBtn = b → s.speed = 2 →
    exec (.btn b) s =
      .next { s with
        dbLastBtn := b, dbLastTick := s.tick, matrix := ⟨0#12, 0#12, 0#12⟩, speed := 0, actValid := false,
        actBtn := .button0 } ∧
    ∃ u, runEvents [.btn b, .htick] s = .next u ∧ u.ledOut = 0#12 ∧ u.gndOut = 0#3 ∧ u.muxCursor = s.muxCursor

/-- R56, R48: an accepted press in Idle, or of a button that is not the active one, clears the matrix, makes the button
active at speed 0, and is recorded; it changes nothing else. -/
def Obligations.PressOfOtherButtonSwitches : Prop :=
  ∀ (b : ButtonId) (s : State), WindowOpen s → (s.actValid = false ∨ s.actBtn ≠ b) →
    exec (.btn b) s =
      .next { s with
        dbLastBtn := b, dbLastTick := s.tick, matrix := ⟨0#12, 0#12, 0#12⟩, speed := 0, actValid := true,
        actBtn := b }

/-- The whole transition table of the ten states (R53 to R56): from Idle or an Active state, an accepted press leads to
the state of the table, and the matrix is kept exactly where the speed is raised. -/
def Obligations.PressFollowsTheTransitionTable : Prop :=
  ∀ (b : ButtonId) (s : State), WindowOpen s → ∃ t, exec (.btn b) s = .next t ∧
    (IsIdle s → IsActive b 0 t ∧ t.matrix = LedMatrix.zero) ∧
    (IsActive b 0 s → IsActive b 1 t ∧ t.matrix = s.matrix) ∧
    (IsActive b 1 s → IsActive b 2 t ∧ t.matrix = s.matrix) ∧
    (IsActive b 2 s → IsIdle t ∧ t.matrix = LedMatrix.zero) ∧
    (∀ a sp, a ≠ b → IsActive a sp s → IsActive b 0 t ∧ t.matrix = LedMatrix.zero)

/-- R50: after an accepted press, until five logical ticks have been counted, no edge of any button has an effect, however
the other events fall between: the events lead to the state that they lead to without the edges, and the mode and the
debounce registers are as they were. -/
def Obligations.WindowIsSharedByAllButtons : Prop :=
  ∀ (es : List Instr) (s : State), s.dbLastTick = s.tick → Instr.reset ∉ es → es.count .ltick < 5 →
    ∃ t, runEvents es s = .next t ∧
      runEvents (es.filter fun e => e = .ltick ∨ e = .htick ∨ e = .idle) s = .next t ∧
      t.dbLastTick = s.dbLastTick ∧ t.dbLastBtn = s.dbLastBtn ∧
      t.actValid = s.actValid ∧ t.actBtn = s.actBtn ∧ t.speed = s.speed

/-- R49: an edge inside the debounce window, of any button, changes nothing at all; so it does not restart the window:
from the fifth logical tick after an accepted press on the window is open (for a period of the counter, R51), whatever
edges came before that tick. -/
def Obligations.RejectedEdgesDoNotRestartTheWindow : Prop :=
  (∀ (b : ButtonId) (s : State), ¬ WindowOpen s → exec (.btn b) s = .next s) ∧
  (∀ (es₁ es₂ : List Instr) (s : State), s.dbLastTick = s.tick →
    Instr.reset ∉ es₁ → es₁.count .ltick = 4 →
    (∀ e ∈ es₂, e = .ltick ∨ e = .htick ∨ e = .idle) → 5 + es₂.count .ltick < 2 ^ s.params.tickWidth.val →
    ∃ t, runEvents (es₁ ++ [.ltick] ++ es₂) s = .next t ∧ WindowOpen t ∧ t.dbLastTick = s.dbLastTick)

/-- R51, R47: the window after `n` logical ticks since an accepted press is open exactly when `n` modulo 2^TICK_W is at
least 5: right across one wrap, and aliased after whole periods of the counter. An edge of any button then changes the
state if and only if the window is open. -/
def Obligations.WindowAliasesWithTheCounterPeriod : Prop :=
  ∀ (n : Nat) (s : State), s.dbLastTick = s.tick →
    ∃ t, runEvents (List.replicate n .ltick) s = .next t ∧
      (WindowOpen t ↔ 5 ≤ n % 2 ^ s.params.tickWidth.val) ∧
      ∀ b : ButtonId, exec (.btn b) t = .next t ↔ n % 2 ^ s.params.tickWidth.val < 5

/-- R52: after reset, until five logical ticks have been counted, no press is accepted: the block stays in Idle with a
cleared matrix, whatever the events, further resets among them. -/
def Obligations.LockOutAfterReset : Prop :=
  ∀ (p : Params) (ins : List Input) (es : List Instr), es.count .ltick < 5 →
    ∃ t, runEvents es (resetState p ins) = .next t ∧
      IsIdle t ∧ t.matrix = LedMatrix.zero ∧ t.dbLastTick = 0 ∧ t.dbLastBtn = .button0

/-- From Active(b, 0), three further accepted presses of b, each at least five ticks (and less than a period of the
counter) after the one before, lead to Idle with the matrix cleared, whatever ticks fall between (R54, R55; the
source's second property, read as C4 reads it). -/
def Obligations.ThreeRepressesTurnOff : Prop :=
  ∀ (b : ButtonId) (s : State) (es₁ es₂ es₃ : List Instr),
    IsActive b 0 s → s.dbLastTick = s.tick →
    (∀ es ∈ [es₁, es₂, es₃], (∀ e ∈ es, e = .ltick ∨ e = .htick ∨ e = .idle) ∧
      5 ≤ es.count .ltick ∧ es.count .ltick < 2 ^ s.params.tickWidth.val) →
    ∃ t, runEvents (es₁ ++ [.btn b] ++ es₂ ++ [.btn b] ++ es₃ ++ [.btn b]) s = .next t ∧
      IsIdle t ∧ t.matrix = LedMatrix.zero ∧ t.dbLastTick = t.tick ∧ t.dbLastBtn = b

/-! ## LTICK: the tick counter, the frame and the patterns -/

/-- R61, R57: on a logical tick that is not eligible, the only effect is the increment. -/
def Obligations.LtickBetweenFramesOnlyCounts : Prop :=
  ∀ s : State, ¬ NextTickEligible s → exec .ltick s = .next { s with tick := nextTick s }

/-- R57 to R60: on an eligible logical tick the counter is incremented, the matrix is replaced by the PatternGenerator's,
and under LAST_PUBLISHED the last layer of PUBLISH_ORDER is selected; nothing else changes. -/
def Obligations.LtickGeneratesAFrame : Prop :=
  ∀ s : State, NextTickEligible s →
    ∃ l, s.params.publishOrder.val.getLast? = some l ∧
      exec .ltick s =
        .next { s with
          tick := nextTick s
          matrix := patternGen s.params s.actValid s.actBtn s.matrix
          selLayer := if s.params.layerPolicy = .lastPublished then l else s.selLayer }

/-- R57, R58: after `n` logical ticks the counter has advanced by `n` modulo 2^TICK_W, and because the frame delay
divides 2^TICK_W the eligible values are those at which the unwrapped count is a multiple of it: the cadence is unbroken
across the wrap. -/
def Obligations.FrameCadenceSurvivesTheWrap : Prop :=
  ∀ (n : Nat) (s : State), s.tick < 2 ^ s.params.tickWidth.val →
    ∃ t, runEvents (List.replicate n .ltick) s = .next t ∧
      t.tick = (s.tick + n) % 2 ^ s.params.tickWidth.val ∧ t.speed = s.speed ∧
      (t.tick % 2 ^ (t.speed.val + 1) = 0 ↔ (s.tick + n) % 2 ^ (s.speed.val + 1) = 0)

/-- R63: with no active button the PatternGenerator returns the matrix unchanged, so a logical tick keeps the matrix; in
Idle it stays zero. -/
def Obligations.NoActiveButtonKeepsTheMatrix : Prop :=
  (∀ (p : Params) (b : ButtonId) (m : LedMatrix), patternGen p false b m = m) ∧
  (∀ s : State, s.actValid = false → ∃ t, exec .ltick s = .next t ∧ t.matrix = s.matrix)

/-- R64: the chase on layer 0, bit by bit; layers 1 and 2 untouched; with the default seed the cycle has 13 frames. -/
def Obligations.ChaseShiftsLayerZero : Prop :=
  (∀ (p : Params) (m : LedMatrix),
    (patternGen p true .button0 m).m1 = m.m1 ∧ (patternGen p true .button0 m).m2 = m.m2 ∧
    (m.m0 = 0#12 → (patternGen p true .button0 m).m0 = p.chaseSeed) ∧
    (m.m0 ≠ 0#12 → ∀ i : Nat,
      (patternGen p true .button0 m).m0.getLsbD i = (decide (i < 11) && m.m0.getLsbD (i + 1)))) ∧
  (∀ p : Params, p.chaseSeed = 0x800#12 →
    (List.range 14).map (fun k => (chase p)^[k + 1] 0#12) =
      [0x800#12, 0x400#12, 0x200#12, 0x100#12, 0x080#12, 0x040#12, 0x020#12, 0x010#12, 0x008#12, 0x004#12,
        0x002#12, 0x001#12, 0x000#12, 0x800#12])

/-- R65: the sparse pulse on layer 1; layers 0 and 2 untouched; with the default literals the cycle has 4 frames. -/
def Obligations.SparseStepsLayerOne : Prop :=
  (∀ (p : Params) (m : LedMatrix),
    (patternGen p true .button1 m).m0 = m.m0 ∧ (patternGen p true .button1 m).m2 = m.m2 ∧
    (m.m1 = 0#12 → (patternGen p true .button1 m).m1 = p.sparseSeed) ∧
    (m.m1 ≠ 0#12 → m.m1 = p.sparseEnd → (patternGen p true .button1 m).m1 = 0#12) ∧
    (m.m1 ≠ 0#12 → m.m1 ≠ p.sparseEnd → ∀ i : Nat,
      (patternGen p true .button1 m).m1.getLsbD i = (decide (i < 11) && m.m1.getLsbD (i + 1)))) ∧
  (∀ p : Params, p.sparseSeed = 0x924#12 → p.sparseEnd = 0x249#12 →
    (List.range 5).map (fun k => (sparse p)^[k + 1] 0#12) =
      [0x924#12, 0x492#12, 0x249#12, 0x000#12, 0x924#12])

/-- R66: the rising fill, by which layers are lit; two or three lit layers are a fixed point (R67); with the default FULL
the cycle has 4 frames. -/
def Obligations.FillRaisesTheBar : Prop :=
  (∀ (p : Params) (m : LedMatrix),
    (m.m0 = 0#12 → m.m1 = 0#12 → m.m2 = 0#12 → patternGen p true .button2 m = ⟨0#12, 0#12, p.full⟩) ∧
    (m.m0 = 0#12 → m.m1 = 0#12 → m.m2 ≠ 0#12 → patternGen p true .button2 m = ⟨0#12, p.full, 0#12⟩) ∧
    (m.m0 = 0#12 → m.m1 ≠ 0#12 → m.m2 = 0#12 → patternGen p true .button2 m = ⟨p.full, 0#12, 0#12⟩) ∧
    (m.m0 ≠ 0#12 → m.m1 = 0#12 → m.m2 = 0#12 → patternGen p true .button2 m = ⟨0#12, 0#12, 0#12⟩) ∧
    ((m.m0 ≠ 0#12 ∧ m.m1 ≠ 0#12) ∨ (m.m0 ≠ 0#12 ∧ m.m2 ≠ 0#12) ∨ (m.m1 ≠ 0#12 ∧ m.m2 ≠ 0#12) →
      patternGen p true .button2 m = m)) ∧
  (∀ p : Params, p.full = 0xFFF#12 →
    (List.range 5).map (fun k => (fill p)^[k + 1] ⟨0#12, 0#12, 0#12⟩) =
      [⟨0#12, 0#12, 0xFFF#12⟩, ⟨0#12, 0xFFF#12, 0#12⟩, ⟨0xFFF#12, 0#12, 0#12⟩, ⟨0#12, 0#12, 0#12⟩,
        ⟨0#12, 0#12, 0xFFF#12⟩])

/-! ## HTICK: the AudioStreamer and the multiplexer -/

/-- R73, R70, R81: on a high-rate tick whose target mask is zero, the sample is written and the audio cursor moves (with
HAS_AUDIO), the two deactivating writes are performed, and nothing else changes; the outputs stay off until the next
high-rate tick. -/
def Obligations.DarkStrobeOnlySwitchesOff : Prop :=
  ∀ s : State, NextStrobeDark s →
    exec .htick s =
      .next { s with
        ledOut := 0#12
        gndOut := 0#3
        toneOut := if s.params.hasAudio then memReadPcm s.params s.audioCursor else s.toneOut
        audioCursor := if s.params.hasAudio then (s.audioCursor + 1) % pcmLen s.params else s.audioCursor
        trace := s.trace ++
          (if s.params.hasAudio then [.tone (memReadPcm s.params s.audioCursor)] else []) ++
          [.led 0#12, .gnd 0#3] } ∧
    ∀ es : List Instr, Instr.htick ∉ es →
      ∃ u, runEvents (.htick :: es) s = .next u ∧ u.ledOut = 0#12 ∧ u.gndOut = 0#3

/-- R69 to R72, R74 to R76, R81: on a high-rate tick whose selected layer `l` is lit, the sample is written and the audio
cursor moves (with HAS_AUDIO); then the outputs are switched off, the fired mask is driven and the layer's ground line
asserted, as four output writes in that order; the cursor moves just past the last position taken; nothing else
changes; and the outputs are held until the next high-rate tick or a RESET. -/
def Obligations.LitStrobeFiresTheSubset : Prop :=
  ∀ (s : State) (l : Layer), SelectedNext s l → matrixRead s.matrix l ≠ 0#12 →
    exec .htick s =
      .next { s with
        selLayer := l
        muxCursor := (fireSubset (matrixRead s.matrix l) s.muxCursor).2 + 1
        ledOut := (fireSubset (matrixRead s.matrix l) s.muxCursor).1
        gndOut := onehot3 l
        toneOut := if s.params.hasAudio then memReadPcm s.params s.audioCursor else s.toneOut
        audioCursor := if s.params.hasAudio then (s.audioCursor + 1) % pcmLen s.params else s.audioCursor
        trace := s.trace ++
          (if s.params.hasAudio then [.tone (memReadPcm s.params s.audioCursor)] else []) ++
          [.led 0#12, .gnd 0#3, .led (fireSubset (matrixRead s.matrix l) s.muxCursor).1, .gnd (onehot3 l)] } ∧
    ∀ es : List Instr, Instr.htick ∉ es → Instr.reset ∉ es →
      ∃ u, runEvents (.htick :: es) s = .next u ∧
        u.ledOut = (fireSubset (matrixRead s.matrix l) s.muxCursor).1 ∧ u.gndOut = onehot3 l

/-- Every state is in one of the two cases of a high-rate tick, never in both (R69, R73). -/
def Obligations.StrobeIsDarkOrLit : Prop :=
  ∀ s : State,
    (NextStrobeDark s ∨ ∃ l, SelectedNext s l ∧ matrixRead s.matrix l ≠ 0#12) ∧
    ¬ (NextStrobeDark s ∧ ∃ l, SelectedNext s l ∧ matrixRead s.matrix l ≠ 0#12)

/-- R74: the fired mask holds exactly the first six set bits of the target in the scan order from the cursor, or all of
them if there are fewer; `last` is the last of them. -/
def Obligations.FiredSubsetIsTheFirstSix : Prop :=
  ∀ (t : Mask) (c : BitPos), t ≠ 0#12 →
    (∀ k : BitPos, testBit (fireSubset t c).1 (c + k) = (testBit t (c + k) && decide (setBitsBefore t c k.val < 6))) ∧
    popcount12 (fireSubset t c).1 = min 6 (popcount12 t) ∧ 1 ≤ popcount12 (fireSubset t c).1 ∧
    testBit (fireSubset t c).1 (fireSubset t c).2 = true ∧
    (∀ k : BitPos, testBit (fireSubset t c).1 (c + k) = true → k ≤ (fireSubset t c).2 - c)

/-- R75, R79: while the target does not change, two successive strobes fire every set bit of it, and no strobe fires a
clear bit. Under LAST_PUBLISHED the target is the selected layer's mask; under ROUND_ROBIN it does not change where no
other layer is lit (R72). -/
def Obligations.TwoStrobesFireEverySetBit : Prop :=
  ∀ (s : State) (l : Layer),
    (s.params.layerPolicy = .lastPublished ∧ l = s.selLayer) ∨
      (s.params.layerPolicy = .roundRobin ∧ ∀ k : Layer, k ≠ l → matrixRead s.matrix k = 0#12) →
    ∃ t u, exec .htick s = .next t ∧ exec .htick t = .next u ∧
      ∀ i : BitPos,
        (testBit (matrixRead s.matrix l) i = true → testBit t.ledOut i = true ∨ testBit u.ledOut i = true) ∧
        (testBit (matrixRead s.matrix l) i = false → testBit t.ledOut i = false ∧ testBit u.ledOut i = false)

/-- R72: under ROUND_ROBIN every lit layer is driven within any three successive strobes. -/
def Obligations.RoundRobinDrivesEveryLitLayer : Prop :=
  ∀ (s : State) (l : Layer), s.params.layerPolicy = .roundRobin → matrixRead s.matrix l ≠ 0#12 →
    ∃ t u v, exec .htick s = .next t ∧ exec .htick t = .next u ∧ exec .htick u = .next v ∧
      (t.gndOut = onehot3 l ∨ u.gndOut = onehot3 l ∨ v.gndOut = onehot3 l)

/-- R60, R71: under LAST_PUBLISHED, once the last layer of PUBLISH_ORDER is selected, no sequence of events without a
RESET ever asserts another layer's ground line. -/
def Obligations.OnlyTheLastPublishedLayerIsDriven : Prop :=
  ∀ (es : List Instr) (s : State) (l : Layer), Instr.reset ∉ es →
    s.params.layerPolicy = .lastPublished → s.params.publishOrder.val.getLast? = some l →
    s.selLayer = l → (s.gndOut = 0#3 ∨ s.gndOut = onehot3 l) →
    ∃ t, runEvents es s = .next t ∧ t.selLayer = l ∧ (t.gndOut = 0#3 ∨ t.gndOut = onehot3 l)

/-- R81, R84: with HAS_AUDIO, and the cursor inside the table, a high-rate tick first writes the sample at the cursor to
the tone output and then moves the cursor on by one, modulo PCM_LEN. -/
def Obligations.AudioAdvanceWritesTheSample : Prop :=
  ∀ s : State, s.params.hasAudio = true → s.audioCursor < pcmLen s.params →
    ∃ t b ws, exec .htick s = .next t ∧ sampleAtCursor s = some b ∧
      t.toneOut = b ∧ t.audioCursor = (s.audioCursor + 1) % pcmLen s.params ∧
      t.trace = s.trace ++ .tone b :: ws ∧ toneWrites ws = []

/-- R82: with HAS_AUDIO the audio cursor is inside the table in every state that events reach from reset, and after `n`
high-rate ticks from reset it is `n` modulo PCM_LEN; from any cursor inside the table, over PCM_LEN high-rate ticks the
cursor returns to where it started, and the tone writes are the whole table once, in index order, starting from the
cursor's initial value. -/
def Obligations.AudioCursorCyclesThroughTheTable : Prop :=
  (∀ (p : Params) (ins : List Input) (es : List Instr), p.hasAudio = true →
    ∃ t, runEvents es (resetState p ins) = .next t ∧ t.audioCursor < pcmLen p) ∧
  (∀ (p : Params) (ins : List Input) (n : Nat), p.hasAudio = true →
    ∃ t, runEvents (List.replicate n .htick) (resetState p ins) = .next t ∧ t.audioCursor = n % pcmLen p) ∧
  (∀ s : State, s.params.hasAudio = true → s.audioCursor < pcmLen s.params →
    ∃ t, runEvents (List.replicate (pcmLen s.params) .htick) s = .next t ∧
      t.audioCursor = s.audioCursor ∧
      toneWrites (t.trace.drop s.trace.length) =
        (s.params.pcm.first :: s.params.pcm.rest).rotate s.audioCursor)

/-- R80: with HAS_AUDIO false no event touches the audio registers or writes a tone, whatever the events; that the
registers then stand in the state at all is the model's choice (log entry 9). -/
def Obligations.WithoutAudioNoToneIsWritten : Prop :=
  ∀ (es : List Instr) (s : State), s.params.hasAudio = false → Instr.reset ∉ es →
    ∃ t ws, runEvents es s = .next t ∧ t.audioCursor = s.audioCursor ∧ t.toneOut = s.toneOut ∧
      t.trace = s.trace ++ ws ∧ toneWrites ws = []

/-! ## Independence -/

/-- R80: the audio does not depend on the mode: two states that agree on the parameters and the audio registers agree on
them after any events, however much the rest differs. -/
def Obligations.AudioIsIndependentOfTheMode : Prop :=
  ∀ (es : List Instr) (s s' : State),
    s.params = s'.params → s.audioCursor = s'.audioCursor → s.toneOut = s'.toneOut →
    ∃ t t', runEvents es s = .next t ∧ runEvents es s' = .next t' ∧
      t.audioCursor = t'.audioCursor ∧ t.toneOut = t'.toneOut

/-- R43, R44, R92: the mode, the debounce state, the counter and the matrix do not depend on the high-rate ticks: taking
all HTICK events out of a sequence of events leaves the same final values of these registers. -/
def Obligations.ModeIsIndependentOfHighRateTicks : Prop :=
  ∀ (es : List Instr) (s : State),
    ∃ t u, runEvents es s = .next t ∧ runEvents (es.filter (· ≠ .htick)) s = .next u ∧
      t.tick = u.tick ∧ t.dbLastTick = u.dbLastTick ∧ t.dbLastBtn = u.dbLastBtn ∧
      t.actValid = u.actValid ∧ t.actBtn = u.actBtn ∧ t.speed = u.speed ∧ t.matrix = u.matrix

/-- R9, R47: the button identity of the last accepted press is observed by nothing: two states that differ in it alone
differ at most in it after any events. -/
def Obligations.LastButtonIsNeverObserved : Prop :=
  ∀ (es : List Instr) (s : State) (b : ButtonId),
    ∃ t c, runEvents es s = .next t ∧ runEvents es { s with dbLastBtn := b } = .next { t with dbLastBtn := c }

/-! ## Guarantees and invariants -/

/-- R102: the current budget is enforced at the last step before the pins: every LED write of a high-rate tick has at
most six bits set and every ground write at most one, in every state, unreachable ones among them. -/
def Obligations.EveryStrobeKeepsTheBudget : Prop :=
  ∀ s : State, ∃ t ws, exec .htick s = .next t ∧ t.trace = s.trace ++ ws ∧
    (∀ v, .led v ∈ ws → popcount12 v ≤ 6) ∧
    (∀ v, .gnd v ∈ ws → v = 0#3 ∨ ∃ l : Layer, v = onehot3 l) ∧
    popcount12 t.ledOut ≤ 6 ∧ (t.gndOut = 0#3 ∨ ∃ l : Layer, t.gndOut = onehot3 l)

/-- R70, R77, R78, R101, R102: at every point of the output trace the current budget holds, every write keeps break
before make, and the output registers hold what the trace last wrote: every step keeps this. -/
def Obligations.OutputsStaySafe : Prop :=
  ∀ s t : State, OutputsSafe s → step s = .next t → OutputsSafe t

/-- The output side is safe at reset (R17). -/
def Obligations.OutputsAreSafeAtReset : Prop :=
  OutputsSafe State.reset

/-- R7, R8, R15, R82: for all parameters, every step keeps `tick`, `db_last_tick` and `audio_cursor` in their ranges. -/
def Obligations.RegistersStayInRange : Prop :=
  ∀ s t : State, RegistersInRange s → step s = .next t → RegistersInRange t

/-- R10, R20 item 2, R53: for all parameters, every step keeps Idle a single state: no active button, speed 0, matrix
cleared. -/
def Obligations.IdleStaysASingleState : Prop :=
  ∀ s t : State, (s.actValid = false → IsIdle s ∧ s.matrix = LedMatrix.zero) → step s = .next t →
    (t.actValid = false → IsIdle t ∧ t.matrix = LedMatrix.zero)

/-- R20, items 1 to 6, with the default pattern parameters: every step keeps the invariants of the reachable states. -/
def Obligations.ReachableInvariantsAreKept : Prop :=
  ∀ s t : State, ReachableInv s → step s = .next t → ReachableInv t

/-- The invariants of R20 hold after reset. -/
def Obligations.ReachableInvariantsHoldAtReset : Prop :=
  ReachableInv State.reset

/-- R38, R35: each state field has the bits R38 gives it: the buttons are numbered by their names, the ordinals, indices
and positions are themselves, and the counters and the audio cursor, in their ranges, are themselves. So the values that
are no states (R9 to R14) are never produced; that the types alone leave them out is the model's choice (log entry 8), and
that the counters and the audio cursor are held as natural numbers (log entry 7) and the audio fields without audio
(log entry 9) too. -/
def Obligations.FieldEncodingsStayLegal : Prop :=
  ∀ s : State,
    (s.tick < 2 ^ s.params.tickWidth.val → (tickBits s).toNat = s.tick) ∧
    (s.dbLastTick < 2 ^ s.params.tickWidth.val → (dbLastTickBits s).toNat = s.dbLastTick) ∧
    (s.dbLastBtn = .button0 → dbLastBtnBits s = 0#2) ∧ (s.dbLastBtn = .button1 → dbLastBtnBits s = 1#2) ∧
    (s.dbLastBtn = .button2 → dbLastBtnBits s = 2#2) ∧
    (s.actValid = true → actValidBits s = 1#1) ∧ (s.actValid = false → actValidBits s = 0#1) ∧
    (s.actBtn = .button0 → actBtnBits s = 0#2) ∧ (s.actBtn = .button1 → actBtnBits s = 1#2) ∧
    (s.actBtn = .button2 → actBtnBits s = 2#2) ∧
    (speedBits s).toNat = s.speed.val ∧ s.speed.val < 3 ∧
    (selLayerBits s).toNat = s.selLayer.val ∧ s.selLayer.val < 3 ∧
    (muxCursorBits s).toNat = s.muxCursor.val ∧ s.muxCursor.val < 12 ∧
    (s.params.hasAudio = true → s.audioCursor < pcmLen s.params →
      ∃ v, audioCursorBits s = some v ∧ v.toNat = s.audioCursor) ∧
    (s.params.hasAudio = false → audioCursorBits s = none)

/-- R37, R39: the output ports show the output registers, the tone port is absent exactly where there is no AudioStreamer
(R80), and a ground-line word asserts the line of its layer and no other. -/
def Obligations.OutputPortsShowTheRegisters : Prop :=
  (∀ s : State,
    (outputPorts s).led = s.ledOut ∧ (outputPorts s).gnd = s.gndOut ∧
    (s.params.hasAudio = true → (outputPorts s).tone = some s.toneOut) ∧
    ((outputPorts s).tone = none ↔ s.params.hasAudio = false)) ∧
  (∀ l k : Layer, (onehot3 l).getLsbD k.val = decide (k = l))
end

