-- ==== Sys2Proof/Laws/State.lean ====
section
/-! SUPPORT. One lemma per field per update of the state (Machine/Ops.lean, Machine/Fetch.lean), each true by rfl. -/

namespace Sys2Proof.Machine

/-! `tick <- t` -/

@[simp] theorem setTick_params (t : Nat) (s : State) : (setTick t s).params = s.params := rfl
@[simp] theorem setTick_inputs (t : Nat) (s : State) : (setTick t s).inputs = s.inputs := rfl
@[simp] theorem setTick_tick (t : Nat) (s : State) : (setTick t s).tick = t := rfl
@[simp] theorem setTick_dbLastTick (t : Nat) (s : State) : (setTick t s).dbLastTick = s.dbLastTick := rfl
@[simp] theorem setTick_dbLastBtn (t : Nat) (s : State) : (setTick t s).dbLastBtn = s.dbLastBtn := rfl
@[simp] theorem setTick_actValid (t : Nat) (s : State) : (setTick t s).actValid = s.actValid := rfl
@[simp] theorem setTick_actBtn (t : Nat) (s : State) : (setTick t s).actBtn = s.actBtn := rfl
@[simp] theorem setTick_speed (t : Nat) (s : State) : (setTick t s).speed = s.speed := rfl
@[simp] theorem setTick_matrix (t : Nat) (s : State) : (setTick t s).matrix = s.matrix := rfl
@[simp] theorem setTick_selLayer (t : Nat) (s : State) : (setTick t s).selLayer = s.selLayer := rfl
@[simp] theorem setTick_muxCursor (t : Nat) (s : State) : (setTick t s).muxCursor = s.muxCursor := rfl
@[simp] theorem setTick_audioCursor (t : Nat) (s : State) : (setTick t s).audioCursor = s.audioCursor := rfl
@[simp] theorem setTick_ledOut (t : Nat) (s : State) : (setTick t s).ledOut = s.ledOut := rfl
@[simp] theorem setTick_gndOut (t : Nat) (s : State) : (setTick t s).gndOut = s.gndOut := rfl
@[simp] theorem setTick_toneOut (t : Nat) (s : State) : (setTick t s).toneOut = s.toneOut := rfl
@[simp] theorem setTick_trace (t : Nat) (s : State) : (setTick t s).trace = s.trace := rfl

/-! The record of an accepted press -/

@[simp] theorem setDebounce_params (b : ButtonId) (t : Nat) (s : State) : (setDebounce b t s).params = s.params := rfl
@[simp] theorem setDebounce_inputs (b : ButtonId) (t : Nat) (s : State) : (setDebounce b t s).inputs = s.inputs := rfl
@[simp] theorem setDebounce_tick (b : ButtonId) (t : Nat) (s : State) : (setDebounce b t s).tick = s.tick := rfl
@[simp] theorem setDebounce_dbLastTick (b : ButtonId) (t : Nat) (s : State) : (setDebounce b t s).dbLastTick = t := rfl
@[simp] theorem setDebounce_dbLastBtn (b : ButtonId) (t : Nat) (s : State) : (setDebounce b t s).dbLastBtn = b := rfl
@[simp] theorem setDebounce_actValid (b : ButtonId) (t : Nat) (s : State) : (setDebounce b t s).actValid = s.actValid := rfl
@[simp] theorem setDebounce_actBtn (b : ButtonId) (t : Nat) (s : State) : (setDebounce b t s).actBtn = s.actBtn := rfl
@[simp] theorem setDebounce_speed (b : ButtonId) (t : Nat) (s : State) : (setDebounce b t s).speed = s.speed := rfl
@[simp] theorem setDebounce_matrix (b : ButtonId) (t : Nat) (s : State) : (setDebounce b t s).matrix = s.matrix := rfl
@[simp] theorem setDebounce_selLayer (b : ButtonId) (t : Nat) (s : State) : (setDebounce b t s).selLayer = s.selLayer := rfl
@[simp] theorem setDebounce_muxCursor (b : ButtonId) (t : Nat) (s : State) : (setDebounce b t s).muxCursor = s.muxCursor := rfl
@[simp] theorem setDebounce_audioCursor (b : ButtonId) (t : Nat) (s : State) : (setDebounce b t s).audioCursor = s.audioCursor := rfl
@[simp] theorem setDebounce_ledOut (b : ButtonId) (t : Nat) (s : State) : (setDebounce b t s).ledOut = s.ledOut := rfl
@[simp] theorem setDebounce_gndOut (b : ButtonId) (t : Nat) (s : State) : (setDebounce b t s).gndOut = s.gndOut := rfl
@[simp] theorem setDebounce_toneOut (b : ButtonId) (t : Nat) (s : State) : (setDebounce b t s).toneOut = s.toneOut := rfl
@[simp] theorem setDebounce_trace (b : ButtonId) (t : Nat) (s : State) : (setDebounce b t s).trace = s.trace := rfl

/-! The mode registers -/

@[simp] theorem setMode_params (v : Bool) (b : ButtonId) (sp : Speed) (s : State) : (setMode v b sp s).params = s.params := rfl
@[simp] theorem setMode_inputs (v : Bool) (b : ButtonId) (sp : Speed) (s : State) : (setMode v b sp s).inputs = s.inputs := rfl
@[simp] theorem setMode_tick (v : Bool) (b : ButtonId) (sp : Speed) (s : State) : (setMode v b sp s).tick = s.tick := rfl
@[simp] theorem setMode_dbLastTick (v : Bool) (b : ButtonId) (sp : Speed) (s : State) : (setMode v b sp s).dbLastTick = s.dbLastTick := rfl
@[simp] theorem setMode_dbLastBtn (v : Bool) (b : ButtonId) (sp : Speed) (s : State) : (setMode v b sp s).dbLastBtn = s.dbLastBtn := rfl
@[simp] theorem setMode_actValid (v : Bool) (b : ButtonId) (sp : Speed) (s : State) : (setMode v b sp s).actValid = v := rfl
@[simp] theorem setMode_actBtn (v : Bool) (b : ButtonId) (sp : Speed) (s : State) : (setMode v b sp s).actBtn = b := rfl
@[simp] theorem setMode_speed (v : Bool) (b : ButtonId) (sp : Speed) (s : State) : (setMode v b sp s).speed = sp := rfl
@[simp] theorem setMode_matrix (v : Bool) (b : ButtonId) (sp : Speed) (s : State) : (setMode v b sp s).matrix = s.matrix := rfl
@[simp] theorem setMode_selLayer (v : Bool) (b : ButtonId) (sp : Speed) (s : State) : (setMode v b sp s).selLayer = s.selLayer := rfl
@[simp] theorem setMode_muxCursor (v : Bool) (b : ButtonId) (sp : Speed) (s : State) : (setMode v b sp s).muxCursor = s.muxCursor := rfl
@[simp] theorem setMode_audioCursor (v : Bool) (b : ButtonId) (sp : Speed) (s : State) : (setMode v b sp s).audioCursor = s.audioCursor := rfl
@[simp] theorem setMode_ledOut (v : Bool) (b : ButtonId) (sp : Speed) (s : State) : (setMode v b sp s).ledOut = s.ledOut := rfl
@[simp] theorem setMode_gndOut (v : Bool) (b : ButtonId) (sp : Speed) (s : State) : (setMode v b sp s).gndOut = s.gndOut := rfl
@[simp] theorem setMode_toneOut (v : Bool) (b : ButtonId) (sp : Speed) (s : State) : (setMode v b sp s).toneOut = s.toneOut := rfl
@[simp] theorem setMode_trace (v : Bool) (b : ButtonId) (sp : Speed) (s : State) : (setMode v b sp s).trace = s.trace := rfl

/-! `matrix <- m` -/

@[simp] theorem setMatrix_params (m : LedMatrix) (s : State) : (setMatrix m s).params = s.params := rfl
@[simp] theorem setMatrix_inputs (m : LedMatrix) (s : State) : (setMatrix m s).inputs = s.inputs := rfl
@[simp] theorem setMatrix_tick (m : LedMatrix) (s : State) : (setMatrix m s).tick = s.tick := rfl
@[simp] theorem setMatrix_dbLastTick (m : LedMatrix) (s : State) : (setMatrix m s).dbLastTick = s.dbLastTick := rfl
@[simp] theorem setMatrix_dbLastBtn (m : LedMatrix) (s : State) : (setMatrix m s).dbLastBtn = s.dbLastBtn := rfl
@[simp] theorem setMatrix_actValid (m : LedMatrix) (s : State) : (setMatrix m s).actValid = s.actValid := rfl
@[simp] theorem setMatrix_actBtn (m : LedMatrix) (s : State) : (setMatrix m s).actBtn = s.actBtn := rfl
@[simp] theorem setMatrix_speed (m : LedMatrix) (s : State) : (setMatrix m s).speed = s.speed := rfl
@[simp] theorem setMatrix_matrix (m : LedMatrix) (s : State) : (setMatrix m s).matrix = m := rfl
@[simp] theorem setMatrix_selLayer (m : LedMatrix) (s : State) : (setMatrix m s).selLayer = s.selLayer := rfl
@[simp] theorem setMatrix_muxCursor (m : LedMatrix) (s : State) : (setMatrix m s).muxCursor = s.muxCursor := rfl
@[simp] theorem setMatrix_audioCursor (m : LedMatrix) (s : State) : (setMatrix m s).audioCursor = s.audioCursor := rfl
@[simp] theorem setMatrix_ledOut (m : LedMatrix) (s : State) : (setMatrix m s).ledOut = s.ledOut := rfl
@[simp] theorem setMatrix_gndOut (m : LedMatrix) (s : State) : (setMatrix m s).gndOut = s.gndOut := rfl
@[simp] theorem setMatrix_toneOut (m : LedMatrix) (s : State) : (setMatrix m s).toneOut = s.toneOut := rfl
@[simp] theorem setMatrix_trace (m : LedMatrix) (s : State) : (setMatrix m s).trace = s.trace := rfl

/-! `sel_layer <- l` -/

@[simp] theorem setSelLayer_params (l : Layer) (s : State) : (setSelLayer l s).params = s.params := rfl
@[simp] theorem setSelLayer_inputs (l : Layer) (s : State) : (setSelLayer l s).inputs = s.inputs := rfl
@[simp] theorem setSelLayer_tick (l : Layer) (s : State) : (setSelLayer l s).tick = s.tick := rfl
@[simp] theorem setSelLayer_dbLastTick (l : Layer) (s : State) : (setSelLayer l s).dbLastTick = s.dbLastTick := rfl
@[simp] theorem setSelLayer_dbLastBtn (l : Layer) (s : State) : (setSelLayer l s).dbLastBtn = s.dbLastBtn := rfl
@[simp] theorem setSelLayer_actValid (l : Layer) (s : State) : (setSelLayer l s).actValid = s.actValid := rfl
@[simp] theorem setSelLayer_actBtn (l : Layer) (s : State) : (setSelLayer l s).actBtn = s.actBtn := rfl
@[simp] theorem setSelLayer_speed (l : Layer) (s : State) : (setSelLayer l s).speed = s.speed := rfl
@[simp] theorem setSelLayer_matrix (l : Layer) (s : State) : (setSelLayer l s).matrix = s.matrix := rfl
@[simp] theorem setSelLayer_selLayer (l : Layer) (s : State) : (setSelLayer l s).selLayer = l := rfl
@[simp] theorem setSelLayer_muxCursor (l : Layer) (s : State) : (setSelLayer l s).muxCursor = s.muxCursor := rfl
@[simp] theorem setSelLayer_audioCursor (l : Layer) (s : State) : (setSelLayer l s).audioCursor = s.audioCursor := rfl
@[simp] theorem setSelLayer_ledOut (l : Layer) (s : State) : (setSelLayer l s).ledOut = s.ledOut := rfl
@[simp] theorem setSelLayer_gndOut (l : Layer) (s : State) : (setSelLayer l s).gndOut = s.gndOut := rfl
@[simp] theorem setSelLayer_toneOut (l : Layer) (s : State) : (setSelLayer l s).toneOut = s.toneOut := rfl
@[simp] theorem setSelLayer_trace (l : Layer) (s : State) : (setSelLayer l s).trace = s.trace := rfl

/-! `mux_cursor <- c` -/

@[simp] theorem setMuxCursor_params (c : BitPos) (s : State) : (setMuxCursor c s).params = s.params := rfl
@[simp] theorem setMuxCursor_inputs (c : BitPos) (s : State) : (setMuxCursor c s).inputs = s.inputs := rfl
@[simp] theorem setMuxCursor_tick (c : BitPos) (s : State) : (setMuxCursor c s).tick = s.tick := rfl
@[simp] theorem setMuxCursor_dbLastTick (c : BitPos) (s : State) : (setMuxCursor c s).dbLastTick = s.dbLastTick := rfl
@[simp] theorem setMuxCursor_dbLastBtn (c : BitPos) (s : State) : (setMuxCursor c s).dbLastBtn = s.dbLastBtn := rfl
@[simp] theorem setMuxCursor_actValid (c : BitPos) (s : State) : (setMuxCursor c s).actValid = s.actValid := rfl
@[simp] theorem setMuxCursor_actBtn (c : BitPos) (s : State) : (setMuxCursor c s).actBtn = s.actBtn := rfl
@[simp] theorem setMuxCursor_speed (c : BitPos) (s : State) : (setMuxCursor c s).speed = s.speed := rfl
@[simp] theorem setMuxCursor_matrix (c : BitPos) (s : State) : (setMuxCursor c s).matrix = s.matrix := rfl
@[simp] theorem setMuxCursor_selLayer (c : BitPos) (s : State) : (setMuxCursor c s).selLayer = s.selLayer := rfl
@[simp] theorem setMuxCursor_muxCursor (c : BitPos) (s : State) : (setMuxCursor c s).muxCursor = c := rfl
@[simp] theorem setMuxCursor_audioCursor (c : BitPos) (s : State) : (setMuxCursor c s).audioCursor = s.audioCursor := rfl
@[simp] theorem setMuxCursor_ledOut (c : BitPos) (s : State) : (setMuxCursor c s).ledOut = s.ledOut := rfl
@[simp] theorem setMuxCursor_gndOut (c : BitPos) (s : State) : (setMuxCursor c s).gndOut = s.gndOut := rfl
@[simp] theorem setMuxCursor_toneOut (c : BitPos) (s : State) : (setMuxCursor c s).toneOut = s.toneOut := rfl
@[simp] theorem setMuxCursor_trace (c : BitPos) (s : State) : (setMuxCursor c s).trace = s.trace := rfl

/-! `audio_cursor <- c` -/

@[simp] theorem setAudioCursor_params (c : Nat) (s : State) : (setAudioCursor c s).params = s.params := rfl
@[simp] theorem setAudioCursor_inputs (c : Nat) (s : State) : (setAudioCursor c s).inputs = s.inputs := rfl
@[simp] theorem setAudioCursor_tick (c : Nat) (s : State) : (setAudioCursor c s).tick = s.tick := rfl
@[simp] theorem setAudioCursor_dbLastTick (c : Nat) (s : State) : (setAudioCursor c s).dbLastTick = s.dbLastTick := rfl
@[simp] theorem setAudioCursor_dbLastBtn (c : Nat) (s : State) : (setAudioCursor c s).dbLastBtn = s.dbLastBtn := rfl
@[simp] theorem setAudioCursor_actValid (c : Nat) (s : State) : (setAudioCursor c s).actValid = s.actValid := rfl
@[simp] theorem setAudioCursor_actBtn (c : Nat) (s : State) : (setAudioCursor c s).actBtn = s.actBtn := rfl
@[simp] theorem setAudioCursor_speed (c : Nat) (s : State) : (setAudioCursor c s).speed = s.speed := rfl
@[simp] theorem setAudioCursor_matrix (c : Nat) (s : State) : (setAudioCursor c s).matrix = s.matrix := rfl
@[simp] theorem setAudioCursor_selLayer (c : Nat) (s : State) : (setAudioCursor c s).selLayer = s.selLayer := rfl
@[simp] theorem setAudioCursor_muxCursor (c : Nat) (s : State) : (setAudioCursor c s).muxCursor = s.muxCursor := rfl
@[simp] theorem setAudioCursor_audioCursor (c : Nat) (s : State) : (setAudioCursor c s).audioCursor = c := rfl
@[simp] theorem setAudioCursor_ledOut (c : Nat) (s : State) : (setAudioCursor c s).ledOut = s.ledOut := rfl
@[simp] theorem setAudioCursor_gndOut (c : Nat) (s : State) : (setAudioCursor c s).gndOut = s.gndOut := rfl
@[simp] theorem setAudioCursor_toneOut (c : Nat) (s : State) : (setAudioCursor c s).toneOut = s.toneOut := rfl
@[simp] theorem setAudioCursor_trace (c : Nat) (s : State) : (setAudioCursor c s).trace = s.trace := rfl

/-! The environment's inputs -/

@[simp] theorem setInputs_params (ins : List Input) (s : State) : (setInputs ins s).params = s.params := rfl
@[simp] theorem setInputs_inputs (ins : List Input) (s : State) : (setInputs ins s).inputs = ins := rfl
@[simp] theorem setInputs_tick (ins : List Input) (s : State) : (setInputs ins s).tick = s.tick := rfl
@[simp] theorem setInputs_dbLastTick (ins : List Input) (s : State) : (setInputs ins s).dbLastTick = s.dbLastTick := rfl
@[simp] theorem setInputs_dbLastBtn (ins : List Input) (s : State) : (setInputs ins s).dbLastBtn = s.dbLastBtn := rfl
@[simp] theorem setInputs_actValid (ins : List Input) (s : State) : (setInputs ins s).actValid = s.actValid := rfl
@[simp] theorem setInputs_actBtn (ins : List Input) (s : State) : (setInputs ins s).actBtn = s.actBtn := rfl
@[simp] theorem setInputs_speed (ins : List Input) (s : State) : (setInputs ins s).speed = s.speed := rfl
@[simp] theorem setInputs_matrix (ins : List Input) (s : State) : (setInputs ins s).matrix = s.matrix := rfl
@[simp] theorem setInputs_selLayer (ins : List Input) (s : State) : (setInputs ins s).selLayer = s.selLayer := rfl
@[simp] theorem setInputs_muxCursor (ins : List Input) (s : State) : (setInputs ins s).muxCursor = s.muxCursor := rfl
@[simp] theorem setInputs_audioCursor (ins : List Input) (s : State) : (setInputs ins s).audioCursor = s.audioCursor := rfl
@[simp] theorem setInputs_ledOut (ins : List Input) (s : State) : (setInputs ins s).ledOut = s.ledOut := rfl
@[simp] theorem setInputs_gndOut (ins : List Input) (s : State) : (setInputs ins s).gndOut = s.gndOut := rfl
@[simp] theorem setInputs_toneOut (ins : List Input) (s : State) : (setInputs ins s).toneOut = s.toneOut := rfl
@[simp] theorem setInputs_trace (ins : List Input) (s : State) : (setInputs ins s).trace = s.trace := rfl

/-! `out led <- v` -/

@[simp] theorem outLed_params (v : Mask) (s : State) : (outLed v s).params = s.params := rfl
@[simp] theorem outLed_inputs (v : Mask) (s : State) : (outLed v s).inputs = s.inputs := rfl
@[simp] theorem outLed_tick (v : Mask) (s : State) : (outLed v s).tick = s.tick := rfl
@[simp] theorem outLed_dbLastTick (v : Mask) (s : State) : (outLed v s).dbLastTick = s.dbLastTick := rfl
@[simp] theorem outLed_dbLastBtn (v : Mask) (s : State) : (outLed v s).dbLastBtn = s.dbLastBtn := rfl
@[simp] theorem outLed_actValid (v : Mask) (s : State) : (outLed v s).actValid = s.actValid := rfl
@[simp] theorem outLed_actBtn (v : Mask) (s : State) : (outLed v s).actBtn = s.actBtn := rfl
@[simp] theorem outLed_speed (v : Mask) (s : State) : (outLed v s).speed = s.speed := rfl
@[simp] theorem outLed_matrix (v : Mask) (s : State) : (outLed v s).matrix = s.matrix := rfl
@[simp] theorem outLed_selLayer (v : Mask) (s : State) : (outLed v s).selLayer = s.selLayer := rfl
@[simp] theorem outLed_muxCursor (v : Mask) (s : State) : (outLed v s).muxCursor = s.muxCursor := rfl
@[simp] theorem outLed_audioCursor (v : Mask) (s : State) : (outLed v s).audioCursor = s.audioCursor := rfl
@[simp] theorem outLed_ledOut (v : Mask) (s : State) : (outLed v s).ledOut = v := rfl
@[simp] theorem outLed_gndOut (v : Mask) (s : State) : (outLed v s).gndOut = s.gndOut := rfl
@[simp] theorem outLed_toneOut (v : Mask) (s : State) : (outLed v s).toneOut = s.toneOut := rfl
@[simp] theorem outLed_trace (v : Mask) (s : State) : (outLed v s).trace = s.trace ++ [.led v] := rfl

/-! `out gnd <- v` -/

@[simp] theorem outGnd_params (v : GroundLines) (s : State) : (outGnd v s).params = s.params := rfl
@[simp] theorem outGnd_inputs (v : GroundLines) (s : State) : (outGnd v s).inputs = s.inputs := rfl
@[simp] theorem outGnd_tick (v : GroundLines) (s : State) : (outGnd v s).tick = s.tick := rfl
@[simp] theorem outGnd_dbLastTick (v : GroundLines) (s : State) : (outGnd v s).dbLastTick = s.dbLastTick := rfl
@[simp] theorem outGnd_dbLastBtn (v : GroundLines) (s : State) : (outGnd v s).dbLastBtn = s.dbLastBtn := rfl
@[simp] theorem outGnd_actValid (v : GroundLines) (s : State) : (outGnd v s).actValid = s.actValid := rfl
@[simp] theorem outGnd_actBtn (v : GroundLines) (s : State) : (outGnd v s).actBtn = s.actBtn := rfl
@[simp] theorem outGnd_speed (v : GroundLines) (s : State) : (outGnd v s).speed = s.speed := rfl
@[simp] theorem outGnd_matrix (v : GroundLines) (s : State) : (outGnd v s).matrix = s.matrix := rfl
@[simp] theorem outGnd_selLayer (v : GroundLines) (s : State) : (outGnd v s).selLayer = s.selLayer := rfl
@[simp] theorem outGnd_muxCursor (v : GroundLines) (s : State) : (outGnd v s).muxCursor = s.muxCursor := rfl
@[simp] theorem outGnd_audioCursor (v : GroundLines) (s : State) : (outGnd v s).audioCursor = s.audioCursor := rfl
@[simp] theorem outGnd_ledOut (v : GroundLines) (s : State) : (outGnd v s).ledOut = s.ledOut := rfl
@[simp] theorem outGnd_gndOut (v : GroundLines) (s : State) : (outGnd v s).gndOut = v := rfl
@[simp] theorem outGnd_toneOut (v : GroundLines) (s : State) : (outGnd v s).toneOut = s.toneOut := rfl
@[simp] theorem outGnd_trace (v : GroundLines) (s : State) : (outGnd v s).trace = s.trace ++ [.gnd v] := rfl

/-! `out tone <- v` -/

@[simp] theorem outTone_params (v : Byte) (s : State) : (outTone v s).params = s.params := rfl
@[simp] theorem outTone_inputs (v : Byte) (s : State) : (outTone v s).inputs = s.inputs := rfl
@[simp] theorem outTone_tick (v : Byte) (s : State) : (outTone v s).tick = s.tick := rfl
@[simp] theorem outTone_dbLastTick (v : Byte) (s : State) : (outTone v s).dbLastTick = s.dbLastTick := rfl
@[simp] theorem outTone_dbLastBtn (v : Byte) (s : State) : (outTone v s).dbLastBtn = s.dbLastBtn := rfl
@[simp] theorem outTone_actValid (v : Byte) (s : State) : (outTone v s).actValid = s.actValid := rfl
@[simp] theorem outTone_actBtn (v : Byte) (s : State) : (outTone v s).actBtn = s.actBtn := rfl
@[simp] theorem outTone_speed (v : Byte) (s : State) : (outTone v s).speed = s.speed := rfl
@[simp] theorem outTone_matrix (v : Byte) (s : State) : (outTone v s).matrix = s.matrix := rfl
@[simp] theorem outTone_selLayer (v : Byte) (s : State) : (outTone v s).selLayer = s.selLayer := rfl
@[simp] theorem outTone_muxCursor (v : Byte) (s : State) : (outTone v s).muxCursor = s.muxCursor := rfl
@[simp] theorem outTone_audioCursor (v : Byte) (s : State) : (outTone v s).audioCursor = s.audioCursor := rfl
@[simp] theorem outTone_ledOut (v : Byte) (s : State) : (outTone v s).ledOut = s.ledOut := rfl
@[simp] theorem outTone_gndOut (v : Byte) (s : State) : (outTone v s).gndOut = s.gndOut := rfl
@[simp] theorem outTone_toneOut (v : Byte) (s : State) : (outTone v s).toneOut = v := rfl
@[simp] theorem outTone_trace (v : Byte) (s : State) : (outTone v s).trace = s.trace ++ [.tone v] := rfl

/-! The state after reset (R17) -/

@[simp] theorem resetState_params (p : Params) (ins : List Input) : (resetState p ins).params = p := rfl
@[simp] theorem resetState_inputs (p : Params) (ins : List Input) : (resetState p ins).inputs = ins := rfl
@[simp] theorem resetState_tick (p : Params) (ins : List Input) : (resetState p ins).tick = 0 := rfl
@[simp] theorem resetState_dbLastTick (p : Params) (ins : List Input) : (resetState p ins).dbLastTick = 0 := rfl
@[simp] theorem resetState_dbLastBtn (p : Params) (ins : List Input) : (resetState p ins).dbLastBtn = .button0 := rfl
@[simp] theorem resetState_actValid (p : Params) (ins : List Input) : (resetState p ins).actValid = false := rfl
@[simp] theorem resetState_actBtn (p : Params) (ins : List Input) : (resetState p ins).actBtn = .button0 := rfl
@[simp] theorem resetState_speed (p : Params) (ins : List Input) : (resetState p ins).speed = 0 := rfl
@[simp] theorem resetState_matrix (p : Params) (ins : List Input) : (resetState p ins).matrix = LedMatrix.zero := rfl
@[simp] theorem resetState_selLayer (p : Params) (ins : List Input) : (resetState p ins).selLayer = 0 := rfl
@[simp] theorem resetState_muxCursor (p : Params) (ins : List Input) : (resetState p ins).muxCursor = 0 := rfl
@[simp] theorem resetState_audioCursor (p : Params) (ins : List Input) : (resetState p ins).audioCursor = 0 := rfl
@[simp] theorem resetState_ledOut (p : Params) (ins : List Input) : (resetState p ins).ledOut = 0#12 := rfl
@[simp] theorem resetState_gndOut (p : Params) (ins : List Input) : (resetState p ins).gndOut = 0#3 := rfl
@[simp] theorem resetState_toneOut (p : Params) (ins : List Input) : (resetState p ins).toneOut = 0#8 := rfl
@[simp] theorem resetState_trace (p : Params) (ins : List Input) : (resetState p ins).trace = [] := rfl

end Sys2Proof.Machine
end

