-- ==== Sys2Proof/Laws/Ops.lean ====
section
/-! SUPPORT. What each shared operation can do, said once (Machine/Ops.lean to Machine/AudioStreamer.lean). -/

namespace Sys2Proof.Machine

/-! Masks -/

theorem testBit_setBit (f : Mask) (i j : BitPos) : testBit (setBit f i) j = (testBit f j || decide (i = j)) := by
  revert i j
  simp only [testBit, setBit]
  intro i j
  rw [BitVec.getLsbD_or, BitVec.getLsbD_shiftLeft, BitVec.getLsbD_one]
  congr 1
  have hi := i.isLt
  have hj := j.isLt
  rw [Bool.eq_iff_iff]
  simp only [Bool.and_eq_true, Bool.not_eq_true', decide_eq_true_eq, decide_eq_false_iff_not, Fin.ext_iff]
  omega

@[simp] theorem testBit_zero (i : BitPos) : testBit 0#12 i = false := by
  simp [testBit]

theorem mem_bitPositions (i : BitPos) : i ∈ bitPositions := by
  revert i; decide

/-- A mask is determined by its twelve bits. -/
theorem mask_ext {a b : Mask} (h : ∀ i : BitPos, testBit a i = testBit b i) : a = b := by
  apply BitVec.eq_of_getLsbD_eq
  intro i hi
  exact h ⟨i, hi⟩

theorem exists_testBit {t : Mask} (h : t ≠ 0#12) : ∃ i, testBit t i = true := by
  by_contra hn
  exact h (mask_ext fun i => by
    rw [testBit_zero, ← Bool.not_eq_true]
    exact fun hi => hn ⟨i, hi⟩)

theorem popcount12_pos {t : Mask} {i : BitPos} (h : testBit t i = true) : 1 ≤ popcount12 t :=
  List.countP_pos_iff.mpr ⟨i, mem_bitPositions i, h⟩

theorem onehot3_ne_zero (l : Layer) : onehot3 l ≠ 0#3 := by
  revert l; decide

theorem onehot3_injective {k l : Layer} (h : onehot3 k = onehot3 l) : k = l := by
  revert k l; decide

/-! The tick counter -/

theorem tickModulus_eq (p : Params) : tickModulus p = 2 ^ p.tickWidth.val := rfl

/-- DELAY is 2, 4, 8 (R58). -/
theorem delay_eq (sp : Speed) : delay sp = 2 ^ (sp.val + 1) := by
  revert sp; decide

/-- Every frame delay divides `2^TICK_W`, since TICK_W is at least 4 (R58). -/
theorem delay_dvd_tickModulus (p : Params) (sp : Speed) : delay sp ∣ tickModulus p := by
  rw [delay_eq, tickModulus_eq]
  exact Nat.pow_dvd_pow 2 (by have := p.tickWidth.property; have := sp.isLt; omega)

theorem sixteen_le_tickModulus (p : Params) : 16 ≤ tickModulus p :=
  Nat.pow_le_pow_right (n := 2) (by decide) p.tickWidth.property

theorem tickSucc_lt (p : Params) (t : Nat) : tickSucc p t < tickModulus p :=
  Nat.mod_lt _ (by have := sixteen_le_tickModulus p; omega)

theorem nextTick_eq (s : State) : nextTick s = tickSucc s.params s.tick := rfl

/-- The elapsed ticks after `n` increments of the counter (R47, R51). -/
theorem elapsedTicks_add (p : Params) (t n : Nat) :
    elapsedTicks p ((t + n) % tickModulus p) t = n % tickModulus p := by
  have h16 := sixteen_le_tickModulus p
  unfold elapsedTicks
  have h : (((t + n) % tickModulus p : Nat) : Int) - (t : Int) = ((t + n : Nat) : Int) % (tickModulus p) - t := by
    push_cast; rfl
  rw [h, Int.emod_sub_emod]
  have h2 : ((t + n : Nat) : Int) - (t : Int) = (n : Int) := by push_cast; ring
  rw [h2, ← Int.natCast_emod, Int.toNat_natCast]

@[simp] theorem elapsedTicks_self (p : Params) (t : Nat) : elapsedTicks p t t = 0 := by
  simp [elapsedTicks]

/-- The window test of the model is the spec's (R47). -/
theorem debouncerAccepts_iff (s : State) : debouncerAccepts s = true ↔ WindowOpen s := by
  have h16 := sixteen_le_tickModulus s.params
  have hpos : (0 : Int) ≤ ((s.tick : Int) - s.dbLastTick) % (tickModulus s.params : Int) :=
    Int.emod_nonneg _ (by omega)
  have hm : ((tickModulus s.params : Nat) : Int) = (2 : Int) ^ s.params.tickWidth.val := by
    rw [tickModulus_eq]; push_cast; rfl
  rw [debouncerAccepts, decide_eq_true_eq, WindowOpen, ← hm, elapsedTicks, debounceWindow]
  omega

/-- The eligibility test of the model, after the increment, is the spec's (R58). -/
theorem frameEligible_countTick_iff (s : State) : frameEligible (countTick s) = true ↔ NextTickEligible s := by
  rw [frameEligible, decide_eq_true_eq, NextTickEligible, delay_eq]
  rfl

/-! The AudioStreamer -/

theorem pcmLen_pos (p : Params) : 0 < pcmLen p :=
  Nat.succ_pos _

/-- Inside the table a read gives the table's byte (R22). -/
theorem memReadPcm_of_lt (p : Params) (i : Nat) (h : i < pcmLen p) :
    (p.pcm.first :: p.pcm.rest)[i]? = some (memReadPcm p i) := by
  have h' : i < (p.pcm.first :: p.pcm.rest).length := h
  rw [memReadPcm, List.getD_eq_getElem _ _ h', List.getElem?_eq_getElem h']

theorem audioTick_without (s : State) (h : s.params.hasAudio = false) : audioTick s = s := by
  simp [audioTick, h]

/-! The ModeController -/

/-- What an accepted press does: the three leaves of the case analysis (R54 to R56). -/
theorem press_cases (b : ButtonId) (s : State) :
    (s.actValid = true ∧ s.actBtn = b ∧ s.speed = 2 ∧ press b s = turnOff s) ∨
    (s.actValid = true ∧ s.actBtn = b ∧ s.speed ≠ 2 ∧ press b s = speedUp s) ∨
    ((s.actValid = false ∨ s.actBtn ≠ b) ∧ press b s = switchTo b s) := by
  unfold press pressesActive
  by_cases hv : s.actValid = true
  · by_cases hb : s.actBtn = b
    · by_cases hs : s.speed = 2
      · exact .inl ⟨hv, hb, hs, by simp [hv, hb, hs]⟩
      · exact .inr (.inl ⟨hv, hb, hs, by simp [hv, hb, hs]⟩)
    · exact .inr (.inr ⟨.inr hb, by simp [hb]⟩)
  · simp only [Bool.not_eq_true] at hv
    exact .inr (.inr ⟨.inl hv, by simp [hv]⟩)

/-- Publishing layers leaves the last of them selected under LAST_PUBLISHED, and nothing changed under ROUND_ROBIN
(R60). -/
theorem publishAll_eq (ls : List Layer) (s : State) :
    publishAll ls s =
      if s.params.layerPolicy = .lastPublished then setSelLayer (ls.getLastD s.selLayer) s else s := by
  induction ls generalizing s with
  | nil => simp [publishAll, setSelLayer]
  | cons l ls ih =>
    rw [publishAll, ih]
    cases hp : s.params.layerPolicy <;> simp [publish, hp, setSelLayer, List.getLast?_cons]

theorem publishOrder_getLast (p : Params) : ∃ l, p.publishOrder.val.getLast? = some l := by
  have h := p.publishOrder.property.1
  match ho : p.publishOrder.val with
  | [] => rw [ho] at h; simp at h
  | a :: l => exact ⟨_, List.getLast?_cons⟩

/-- What a logical tick does: only the increment, or the increment and a frame (R57 to R61). -/
theorem logicalTick_cases (s : State) :
    (¬ NextTickEligible s ∧ logicalTick s = countTick s) ∨
    (NextTickEligible s ∧ logicalTick s = frame (countTick s)) := by
  by_cases h : NextTickEligible s
  · exact .inr ⟨h, by simp [logicalTick, (frameEligible_countTick_iff s).mpr h]⟩
  · refine .inl ⟨h, ?_⟩
    have h' := mt (frameEligible_countTick_iff s).mp h
    simp [logicalTick, h']

/-- The PatternGenerator reads the active button only where there is one (R63). -/
theorem patternGen_idle (p : Params) (b : ButtonId) (m : LedMatrix) : patternGen p false b m = m := rfl

/-! The multiplexer -/

/-- The layer that a strobe selects is the spec's, where it is lit (R71, R72). -/
theorem selectLayer_cases (s : State) :
    (s.params.layerPolicy = .lastPublished ∧ selectLayer s = s) ∨
    (s.params.layerPolicy = .roundRobin ∧ selectLayer s = setSelLayer (nextLitLayer s.matrix s.selLayer) s) := by
  unfold selectLayer
  cases h : s.params.layerPolicy
  · exact .inl ⟨rfl, rfl⟩
  · exact .inr ⟨rfl, rfl⟩

/-- What a strobe does: it switches off and selects a layer; then nothing more where the mask is zero, or it fires
(R69). -/
theorem strobe_cases (s : State) :
    (matrixRead (selectLayer (breakOutputs s)).matrix (selectLayer (breakOutputs s)).selLayer = 0#12 ∧
      strobe s = selectLayer (breakOutputs s)) ∨
    (matrixRead (selectLayer (breakOutputs s)).matrix (selectLayer (breakOutputs s)).selLayer ≠ 0#12 ∧
      strobe s = fireLayer
        (matrixRead (selectLayer (breakOutputs s)).matrix (selectLayer (breakOutputs s)).selLayer)
        (selectLayer (breakOutputs s))) := by
  by_cases h : matrixRead (selectLayer (breakOutputs s)).matrix (selectLayer (breakOutputs s)).selLayer = 0#12
  · exact .inl ⟨h, by simp [strobe, h]⟩
  · exact .inr ⟨h, by simp [strobe, h]⟩

/-- One iteration of the scan takes the position if it is set and fewer than six are taken, else it changes nothing
(R74). -/
theorem fireStep_cases (t : Mask) (c : BitPos) (a : FireScan) (k : BitPos) :
    (a.taken < 6 ∧ testBit t (c + k) = true ∧
      fireStep t c a k = { fired := setBit a.fired (c + k), taken := a.taken + 1, last := c + k }) ∨
    (¬ (a.taken < 6 ∧ testBit t (c + k) = true) ∧ fireStep t c a k = a) := by
  unfold fireStep maxFiredLeds
  by_cases h : a.taken < 6 ∧ testBit t (c + k) = true
  · exact .inl ⟨h.1, h.2, by rw [if_pos h]⟩
  · exact .inr ⟨h, by rw [if_neg h]⟩

end Sys2Proof.Machine
end

