-- ==== Sys2Proof/Laws/PerInstr.lean ====
section
/-! SUPPORT. The statements made event by event. -/

namespace Sys2Proof.Laws

/-- The word of the event is none of the nine reserved words (R34, R36). -/
def EncodesLegally.Statement (i : Instr) : Prop :=
  eventWordOk (encode i) = true

theorem EncodesLegally.idle : EncodesLegally.Statement .idle := by
  unfold EncodesLegally.Statement; decide

theorem EncodesLegally.reset : EncodesLegally.Statement .reset := by
  unfold EncodesLegally.Statement; decide

theorem EncodesLegally.htick : EncodesLegally.Statement .htick := by
  unfold EncodesLegally.Statement; decide

theorem EncodesLegally.ltick : EncodesLegally.Statement .ltick := by
  unfold EncodesLegally.Statement; decide

theorem EncodesLegally.btn (b : ButtonId) : EncodesLegally.Statement (.btn b) := by
  unfold EncodesLegally.Statement; cases b <;> decide

end Sys2Proof.Laws
end

