-- ==== Sys2Proof/Laws/Step.lean ====
section
/-! SUPPORT. What the dispatch, the step and a sequence of events can do, said once. -/

namespace Sys2Proof.Machine

/-! One event -/

theorem exec_idle (s : State) : exec .idle s = .next s := rfl

theorem exec_reset (s : State) : exec .reset s = .next (resetState s.params s.inputs) := rfl

theorem exec_htick (s : State) : exec .htick s = .next (strobe (audioTick s)) := rfl

theorem exec_ltick (s : State) : exec .ltick s = .next (logicalTick s) := rfl

theorem exec_btn_accepted (b : ButtonId) (s : State) (h : WindowOpen s) :
    exec (.btn b) s = .next (press b (debouncerRecord b s)) := by
  simp [exec, execBtn, (debouncerAccepts_iff s).mpr h]

theorem exec_btn_rejected (b : ButtonId) (s : State) (h : ¬ WindowOpen s) :
    exec (.btn b) s = .next s := by
  have h' := mt (debouncerAccepts_iff s).mp h
  simp [exec, execBtn, h']

/-- What an event does, said once: if it answers `t`, one of these cases holds. -/
theorem exec_cases {i : Instr} {s t : State} (h : exec i s = .next t) :
    (i = .idle ∧ t = s) ∨
    (i = .reset ∧ t = resetState s.params s.inputs) ∨
    (i = .htick ∧ t = strobe (audioTick s)) ∨
    (i = .ltick ∧ t = logicalTick s) ∨
    (∃ b, i = .btn b ∧ WindowOpen s ∧ t = press b (debouncerRecord b s)) ∨
    (∃ b, i = .btn b ∧ ¬ WindowOpen s ∧ t = s) := by
  cases i with
  | idle => cases h; simp
  | reset => cases h; simp
  | htick => cases h; simp
  | ltick => cases h; simp
  | btn b =>
    by_cases hw : WindowOpen s
    · rw [exec_btn_accepted b s hw] at h; cases h; simp [hw]
    · rw [exec_btn_rejected b s hw] at h; cases h; simp [hw]

/-! Taking the next event -/

@[simp] theorem takeWord_nil : takeWord [] = (encode .idle, []) := rfl

@[simp] theorem takeWord_word (w : EventWord) (rest : List Input) : takeWord (.word w :: rest) = (w, rest) := rfl

/-- A strobe vector holds at least one event (R37). -/
theorem expand_ne_nil (sv : StrobeVector) : expand sv ≠ [] := by
  unfold expand
  split
  · simp
  · dsimp only; split <;> simp_all

/-- Of a strobe vector the first event is taken, and the others stand before the rest (R37). -/
theorem takeWord_strobe (sv : StrobeVector) (rest : List Input) :
    ∃ e es, expand sv = e :: es ∧
      takeWord (.strobe sv :: rest) = (encode e, es.map (fun e => .word (encode e)) ++ rest) := by
  match h : expand sv with
  | [] => exact absurd h (expand_ne_nil sv)
  | e :: es => exact ⟨e, es, rfl, by simp [takeWord, expandInputs, h]⟩

/-- The decoder answers an event, or invalid with the word itself (R36). -/
theorem decode_cases (w : EventWord) : (∃ i, decode w = .event i) ∨ decode w = .invalid w := by
  have h : ∀ w : EventWord,
      (match decode w with | .event _ => true | .invalid v => decide (v = w)) = true := by decide
  have hw := h w
  match hd : decode w with
  | .event i => exact .inl ⟨i, rfl⟩
  | .invalid v => rw [hd] at hw; exact .inr (by rw [of_decide_eq_true hw])

/-- What a step does, said once (R36). -/
theorem step_cases (s : State) :
    (∃ i, decode (nextWord s) = .event i ∧ step s = exec i (afterTake s)) ∨
    (decode (nextWord s) = .invalid (nextWord s) ∧ step s = .refused (.reservedEventWord (nextWord s))) := by
  unfold step
  rcases decode_cases (nextWord s) with ⟨i, h⟩ | h
  · exact .inl ⟨i, h, by rw [h]⟩
  · exact .inr ⟨h, by rw [h]⟩

/-- The table word of an event, placed by `withFetchWord`, is the next step's event (log entry 16). -/
theorem step_withFetchWord (s : State) (nbits w : Nat) (i : Instr) (h : decodeTableWord nbits w = some i) :
    step (s.withFetchWord nbits w) = exec i s := by
  unfold decodeTableWord at h
  split at h
  · split at h
    · cases h
      rename_i hd
      simp [step, nextWord, afterTake, State.withFetchWord, hd]
      rfl
    · cases h
  · cases h

/-! Sequences of events -/

@[simp] theorem runEvents_nil (s : State) : runEvents [] s = .next s := rfl

theorem runEvents_cons {e : Instr} {s t : State} (es : List Instr) (h : exec e s = .next t) :
    runEvents (e :: es) s = runEvents es t := by
  simp [runEvents, h]

theorem runEvents_append {es : List Instr} {s t : State} (fs : List Instr) (h : runEvents es s = .next t) :
    runEvents (es ++ fs) s = runEvents fs t := by
  induction es generalizing s with
  | nil => cases h; rfl
  | cons e es ih =>
    simp only [runEvents, List.cons_append] at h ⊢
    split at h
    · exact ih h
    · cases h
    · cases h

end Sys2Proof.Machine
end

