-- ==== Sys2Proof/Tests/Slice0.lean ====
section
/-! SUPPORT. Tests of the model against the spec's own vectors (95_test_vectors.md), and a witness for the hypotheses of
every statement that has some. -/

namespace Sys2Proof.Tests
open Sys2Proof.Machine

/-! ## Well-formedness: an ill-formed term for each check -/

theorem test_reserved_words_are_ill_formed :
    [0x2#4, 0x3#4, 0x5#4, 0x6#4, 0x7#4, 0x9#4, 0xA#4, 0xB#4, 0xF#4].all (fun w => !eventWordOk w) = true := by decide

theorem test_legal_words_are_well_formed :
    [0x0#4, 0x1#4, 0x4#4, 0x8#4, 0xC#4, 0xD#4, 0xE#4].all eventWordOk = true := by decide

theorem test_button_field_3_is_ill_formed : buttonFieldOk 3#2 = false := by decide

theorem test_reserved_input_is_ill_formed : Input.wellFormed (.word 0xF#4) = false := by decide

theorem test_tick_width_3_is_refused : TickWidth.ofNat? 3 = none := by decide

theorem test_empty_pcm_table_is_refused : PcmTable.ofBytes? [] = none := by decide

theorem test_publish_order_with_a_repeat_is_refused : PublishOrder.ofList? [0, 1, 1] = none := by decide

theorem test_short_publish_order_is_refused : PublishOrder.ofList? [0, 1] = none := by decide

theorem test_smallest_legal_parameters :
    (TickWidth.ofNat? 4).isSome = true ∧ (PcmTable.ofBytes? [0x55#8]).isSome = true ∧
    (PublishOrder.ofList? [2, 1, 0]).isSome = true := by decide

/-! ## Decoding, bit by bit from R34's table (V-EV-1 to V-EV-7) -/

theorem test_decode_idle : decode 0b0000#4 = .event .idle := by decide
theorem test_decode_reset : decode 0b0001#4 = .event .reset := by decide
theorem test_decode_htick : decode 0b0100#4 = .event .htick := by decide
theorem test_decode_ltick : decode 0b1000#4 = .event .ltick := by decide
theorem test_decode_btn0 : decode 0b1100#4 = .event (.btn .button0) := by decide
theorem test_decode_btn1 : decode 0b1101#4 = .event (.btn .button1) := by decide
theorem test_decode_btn2 : decode 0b1110#4 = .event (.btn .button2) := by decide
theorem test_decode_b_3 : decode 0b1111#4 = .invalid 0b1111#4 := by decide
theorem test_decode_reserved : decode 0b0101#4 = .invalid 0b0101#4 := by decide

/-! ## The host's table words: the decoder reads them, and they run first after reset -/

theorem test_table_words :
    decodeTableWord 8 0x0 = some .idle ∧ decodeTableWord 8 0x1 = some .reset ∧ decodeTableWord 8 0x4 = some .htick ∧
    decodeTableWord 8 0x8 = some .ltick ∧ decodeTableWord 8 0xD = some (.btn .button1) ∧
    decodeTableWord 8 0xF = none ∧ decodeTableWord 8 0x14 = none := by decide

theorem test_first_htick_after_reset : step (State.reset.withFetchWord 8 0x4) = exec .htick State.reset := rfl
theorem test_first_ltick_after_reset : step (State.reset.withFetchWord 8 0x8) = exec .ltick State.reset := rfl
theorem test_first_btn_after_reset : step (State.reset.withFetchWord 8 0xE) = exec (.btn .button2) State.reset := rfl

/-! ## Single events on small states -/

/-- The parameters of 95_test_vectors.md section 1, with the spec's own test table (R83). -/
def vectorParams : Params := defaultParams { first := 0x80#8, rest := [0xC0#8, 0x80#8, 0x40#8] }

/-- RST0 of 95_test_vectors.md. -/
def rst0 : State := resetState vectorParams []

/-- What one event leaves, `rst0` standing for the stop that no event makes. -/
def after (i : Instr) (s : State) : State :=
  match exec i s with
  | .next t => t
  | _ => rst0

/-- V-EV-9. -/
theorem test_idle : after .idle { rst0 with tick := 7, muxCursor := 3 } = { rst0 with tick := 7, muxCursor := 3 } := by
  decide

/-- V-RS-1. -/
theorem test_reset :
    after .reset { rst0 with
      tick := 14, actValid := true, actBtn := .button2, matrix := ⟨0, 0, 0xFFF⟩,
      ledOut := 0xFC0, gndOut := 0b100, toneOut := 0x80, trace := [.led 0xFC0] } = rst0 := by decide

/-- V-EV-19. -/
theorem test_htick_dark :
    after .htick rst0 =
      { rst0 with audioCursor := 1, toneOut := 0x80, trace := [.tone 0x80, .led 0x000, .gnd 0b000] } := by decide

/-- V-MX-19, its third strobe: ROUND_ROBIN, cursor 4, layer 0 follows layer 2; V-AU-2: the audio cursor wraps. -/
theorem test_htick_round_robin :
    let t := after .htick { rst0 with
      params := { vectorParams with layerPolicy := .roundRobin }, matrix := ⟨0xFFF, 0, 0x00F⟩, selLayer := 2,
      muxCursor := 4, audioCursor := 3 }
    t.trace = [.tone 0x40, .led 0x000, .gnd 0b000, .led 0x3F0, .gnd 0b001] ∧ t.selLayer = 0 ∧ t.muxCursor = 10 ∧
      t.audioCursor = 0 := by decide

/-- V-MC-18: the wrap of the counter is eligible at every speed. -/
theorem test_ltick_wrap :
    let t := after .ltick { rst0 with tick := 0xFFFF, actValid := true, speed := 2, matrix := ⟨0x004, 0, 0⟩ }
    t.tick = 0 ∧ t.matrix = ⟨0x002, 0, 0⟩ ∧ t.selLayer = 2 := by decide

/-- V-MC-17. -/
theorem test_ltick_not_eligible :
    after .ltick { rst0 with tick := 19, actValid := true, speed := 2, matrix := ⟨0x080, 0, 0⟩ } =
      { rst0 with tick := 20, actValid := true, speed := 2, matrix := ⟨0x080, 0, 0⟩ } := by decide

/-- V-DB-12: the turn-off press is recorded too. -/
theorem test_btn_turns_off :
    after (.btn .button0) { rst0 with
      tick := 22, dbLastTick := 17, actValid := true, speed := 2, matrix := ⟨0x080, 0, 0⟩ } =
      { rst0 with tick := 22, dbLastTick := 22 } := by decide

/-- V-DB-7 and V-DB-8: five and four ticks across the wrap. -/
theorem test_btn_across_the_wrap :
    (after (.btn .button1) { rst0 with tick := 3, dbLastTick := 0xFFFE }).actBtn = .button1 ∧
    after (.btn .button1) { rst0 with tick := 2, dbLastTick := 0xFFFE } =
      { rst0 with tick := 2, dbLastTick := 0xFFFE } := by decide

/-! ## Operations -/

/-- V-MX-3, V-MX-5, V-MX-8, V-MX-9, V-MX-12. -/
theorem test_fire_subset :
    fireSubset 0xFFF 9 = (0xE07, 2) ∧ fireSubset 0x07F 6 = (0x05F, 4) ∧ fireSubset 0x800 0 = (0x800, 11) ∧
    fireSubset 0xAAA 3 = (0xAAA, 1) ∧ fireSubset 0xF0F 2 = (0xF0C, 11) := by decide

/-- V-PG-4, V-PG-8, V-PG-9, V-PG-11, V-PG-13. -/
theorem test_patterns :
    patternGen vectorParams true .button0 ⟨0x001, 0x555, 0xAAA⟩ = ⟨0x000, 0x555, 0xAAA⟩ ∧
    sparse vectorParams 0x248 = 0x124 ∧
    patternGen vectorParams true .button1 ⟨0xFFF, 0x249, 0xFFF⟩ = ⟨0xFFF, 0x000, 0xFFF⟩ ∧
    fill vectorParams ⟨0, 0, 0x001⟩ = ⟨0, 0xFFF, 0⟩ ∧
    fill vectorParams ⟨0x001, 0x002, 0x004⟩ = ⟨0x001, 0x002, 0x004⟩ := by decide

/-- V-EV-12, V-EV-15, V-EV-16. -/
theorem test_expand :
    expand 0b000011 = [.htick, .ltick] ∧ expand 0b111111 = [.reset] ∧ expand 0b010010 = [.ltick, .btn .button2] := by
  decide

/-- V-EV-18. -/
theorem test_trace_text :
    (readTrace "REP 3, BTN 2; WAIT 2; REFRESH 1 # end".toList).map encodeTrace =
      some [0xE, 0xE, 0xE, 0x8, 0x8, 0x4] := by decide

/-- R40: a strobe with its bits in order, a blank line, and two texts that are no traces. -/
theorem test_trace_text_forms :
    readTrace "STROBE 0b010010\n\n# c\nRESET".toList = some [.strobe 0b010010, .event .reset] ∧
    readTrace "BTN 3".toList = none ∧ readTrace "HTICK;".toList = none := by decide

/-! ## Witnesses: the hypotheses of each statement are met together -/

theorem witness_StepRunsTheDecodedEvent :
    { rst0 with inputs := [.word 0x8, .word 0xF] }.inputs = .word 0x8 :: [.word 0xF] ∧ decode 0x8 = .event .ltick := by
  decide

theorem witness_StepWithoutInputChangesNothing : State.reset.inputs = [] := rfl

theorem witness_ReservedWordsAreRefused :
    0xF#4 ∈ [0x2#4, 0x3#4, 0x5#4, 0x6#4, 0x7#4, 0x9#4, 0xA#4, 0xB#4, 0xF#4] ∧
    { rst0 with inputs := [.word 0xF#4] }.inputs = .word 0xF#4 :: [] ∧
    { rst0 with inputs := [.strobe 0b010011, .word 0x1] }.inputs = .strobe 0b010011 :: [.word 0x1] ∧
    (afterTake { rst0 with inputs := [.strobe 0b010011, .word 0x1] }).inputs = [.word 0x8, .word 0xE] ++ [.word 0x1] := by
  decide

theorem witness_StrobesExpandInFixedOrder :
    expand (strobeVector true 0b111 true true) = [.reset] ∧ expand (strobeVector false 0#3 false false) = [.idle] ∧
    (0b100#3 ≠ 0#3 ∧ expand (strobeVector false 0b100 false false) = [.btn .button2]) := by decide

theorem witness_EveryEventCompletes :
    step { rst0 with inputs := [.word 0x2] } = .refused (.reservedEventWord 0x2) := rfl

theorem witness_OnlyOwnersChangeRegisters :
    (after .ltick rst0).tick ≠ rst0.tick ∧
    (after (.btn .button1) { rst0 with tick := 5 }).dbLastTick ≠ 0 ∧
    (after (.btn .button1) { rst0 with tick := 5 }).actValid ≠ false ∧
    (after .ltick { rst0 with tick := 1, actValid := true }).matrix ≠ rst0.matrix ∧
    (after (.btn .button1) { rst0 with tick := 5, matrix := ⟨1, 0, 0⟩ }).matrix ≠ ⟨1, 0, 0⟩ ∧
    (after .ltick { rst0 with tick := 1 }).selLayer ≠ 0 ∧
    (after .htick { rst0 with
      params := { vectorParams with layerPolicy := .roundRobin }, matrix := ⟨0, 0, 1⟩ }).selLayer ≠ 0 ∧
    (after .htick { rst0 with matrix := ⟨0xFFF, 0, 0⟩ }).muxCursor ≠ 0 ∧
    (after .htick rst0).audioCursor ≠ 0 ∧
    (after .htick { rst0 with matrix := ⟨0xFFF, 0, 0⟩ }).ledOut ≠ 0 := by decide

/-- Active(button0, `sp`) with the debounce window exactly open (`d = 5`). -/
def openAt (sp : Speed) : State :=
  { rst0 with tick := 12, dbLastTick := 7, actValid := true, speed := sp }

theorem windowOpen_openAt (sp : Speed) : WindowOpen (openAt sp) := by
  show (5 : Int) ≤ ((12 : Int) - 7) % 2 ^ 16
  decide

theorem witness_RejectedEdgesDoNotRestartTheWindow_edge : ¬ WindowOpen { rst0 with tick := 11, dbLastTick := 7 } := by
  show ¬ (5 : Int) ≤ ((11 : Int) - 7) % 2 ^ 16
  decide

theorem witness_PressOfActiveButtonSlowsDown :
    WindowOpen (openAt 1) ∧ (openAt 1).actValid = true ∧ (openAt 1).actBtn = .button0 ∧ (openAt 1).speed ≠ 2 :=
  ⟨windowOpen_openAt 1, by decide⟩

theorem witness_PressAtSpeedTwoTurnsOff :
    WindowOpen (openAt 2) ∧ (openAt 2).actValid = true ∧ (openAt 2).actBtn = .button0 ∧ (openAt 2).speed = 2 :=
  ⟨windowOpen_openAt 2, by decide⟩

theorem witness_PressOfOtherButtonSwitches : WindowOpen (openAt 2) ∧ (openAt 2).actBtn ≠ .button2 :=
  ⟨windowOpen_openAt 2, by decide⟩

theorem witness_PressOfOtherButtonSwitches_idle :
    WindowOpen { rst0 with tick := 5 } ∧ { rst0 with tick := 5 }.actValid = false := by
  refine ⟨?_, rfl⟩
  show (5 : Int) ≤ ((5 : Int) - 0) % 2 ^ 16
  decide

theorem witness_PressFollowsTheTransitionTable :
    WindowOpen (openAt 0) ∧ IsActive .button0 0 (openAt 0) ∧ WindowOpen (openAt 1) ∧ IsActive .button0 1 (openAt 1) ∧
    WindowOpen (openAt 2) ∧ IsActive .button0 2 (openAt 2) ∧ ButtonId.button0 ≠ .button1 ∧
    IsIdle { rst0 with tick := 5 } :=
  ⟨windowOpen_openAt 0, by decide, windowOpen_openAt 1, by decide, windowOpen_openAt 2, by decide, by decide,
    by decide⟩

theorem witness_WindowIsSharedByAllButtons :
    { rst0 with tick := 7, dbLastTick := 7 }.dbLastTick = { rst0 with tick := 7, dbLastTick := 7 }.tick ∧
    Instr.reset ∉ [.ltick, .btn .button1, .ltick, .htick, .ltick, .ltick, .btn .button2] ∧
    [Instr.ltick, .btn .button1, .ltick, .htick, .ltick, .ltick, .btn .button2].count .ltick < 5 := by decide

theorem witness_RejectedEdgesDoNotRestartTheWindow :
    rst0.dbLastTick = rst0.tick ∧ Instr.reset ∉ [.ltick, .ltick, .btn .button0, .ltick, .ltick, .btn .button0] ∧
    [Instr.ltick, .ltick, .btn .button0, .ltick, .ltick, .btn .button0].count .ltick = 4 ∧
    (∀ e ∈ [Instr.htick, .ltick], e = .ltick ∨ e = .htick ∨ e = .idle) ∧
    5 + [Instr.htick, .ltick].count .ltick < 2 ^ rst0.params.tickWidth.val := by decide

theorem witness_WindowAliasesWithTheCounterPeriod :
    rst0.dbLastTick = rst0.tick ∧ 5 ≤ 5 % 2 ^ rst0.params.tickWidth.val ∧
    65540 % 2 ^ rst0.params.tickWidth.val < 5 := by decide

theorem witness_LockOutAfterReset :
    [Instr.ltick, .ltick, .ltick, .ltick, .btn .button0, .reset].count .ltick < 5 := by decide

theorem witness_ThreeRepressesTurnOff :
    IsActive .button0 0 { rst0 with actValid := true } ∧
    (∀ e ∈ [Instr.ltick, .ltick, .htick, .idle, .ltick, .ltick, .ltick], e = .ltick ∨ e = .htick ∨ e = .idle) ∧
    5 ≤ [Instr.ltick, .ltick, .htick, .idle, .ltick, .ltick, .ltick].count .ltick ∧
    [Instr.ltick, .ltick, .htick, .idle, .ltick, .ltick, .ltick].count .ltick < 2 ^ rst0.params.tickWidth.val := by
  decide

theorem witness_LtickBetweenFramesOnlyCounts : ¬ NextTickEligible { rst0 with tick := 19, speed := 2 } := by
  unfold NextTickEligible; decide

theorem witness_LtickGeneratesAFrame : NextTickEligible { rst0 with tick := 0xFFFF, speed := 2 } := by
  unfold NextTickEligible; decide

theorem witness_FrameCadenceSurvivesTheWrap :
    { rst0 with tick := 0xFFFF }.tick < 2 ^ rst0.params.tickWidth.val := by decide

theorem witness_ChaseShiftsLayerZero :
    rst0.matrix.m0 = 0#12 ∧ (⟨0x001, 0, 0⟩ : LedMatrix).m0 ≠ 0#12 ∧ vectorParams.chaseSeed = 0x800#12 := by decide

theorem witness_SparseStepsLayerOne :
    rst0.matrix.m1 = 0#12 ∧ (⟨0, 0x249, 0⟩ : LedMatrix).m1 ≠ 0#12 ∧
    (⟨0, 0x249, 0⟩ : LedMatrix).m1 = vectorParams.sparseEnd ∧ (⟨0, 0x248, 0⟩ : LedMatrix).m1 ≠ 0#12 ∧
    (⟨0, 0x248, 0⟩ : LedMatrix).m1 ≠ vectorParams.sparseEnd ∧ vectorParams.sparseSeed = 0x924#12 ∧
    vectorParams.sparseEnd = 0x249#12 := by decide

/-- One matrix for each of the eight ways in which layers are lit. -/
theorem witness_FillRaisesTheBar :
    vectorParams.full = 0xFFF#12 ∧ fill vectorParams ⟨0, 0, 0⟩ = ⟨0, 0, 0xFFF⟩ ∧ fill vectorParams ⟨0, 0, 1⟩ = ⟨0, 0xFFF, 0⟩ ∧
    fill vectorParams ⟨0, 1, 0⟩ = ⟨0xFFF, 0, 0⟩ ∧ fill vectorParams ⟨1, 0, 0⟩ = ⟨0, 0, 0⟩ ∧
    fill vectorParams ⟨1, 1, 0⟩ = ⟨1, 1, 0⟩ ∧ fill vectorParams ⟨1, 0, 1⟩ = ⟨1, 0, 1⟩ ∧
    fill vectorParams ⟨0, 1, 1⟩ = ⟨0, 1, 1⟩ ∧ fill vectorParams ⟨1, 1, 1⟩ = ⟨1, 1, 1⟩ := by decide

theorem witness_NoActiveButtonKeepsTheMatrix : rst0.actValid = false := rfl

theorem witness_DarkStrobeOnlySwitchesOff :
    NextStrobeDark { rst0 with matrix := ⟨0x800, 0, 0⟩, selLayer := 2 } ∧
    Instr.htick ∉ [.ltick, .btn .button0, .reset, .idle] := by
  refine ⟨?_, by decide⟩
  show matrixRead ⟨0x800, 0, 0⟩ 2 = 0#12
  decide

/-- A round-robin state with the masks `m` and the selected layer `l`. -/
def roundRobinAt (m : LedMatrix) (l : Layer) : State :=
  { rst0 with params := { vectorParams with layerPolicy := .roundRobin }, matrix := m, selLayer := l }

theorem witness_DarkStrobeOnlySwitchesOff_roundRobin : NextStrobeDark (roundRobinAt ⟨0, 0, 0⟩ 1) :=
  rfl

theorem witness_LitStrobeFiresTheSubset :
    SelectedNext { rst0 with matrix := ⟨0, 0, 0xFFF⟩, selLayer := 2 } 2 ∧ matrixRead ⟨0, 0, 0xFFF⟩ 2 ≠ 0#12 ∧
    Instr.htick ∉ [.ltick, .btn .button0, .idle] ∧ Instr.reset ∉ [.ltick, .btn .button0, .idle] :=
  ⟨rfl, by decide⟩

/-- ROUND_ROBIN selects the next layer, the one after it, or the same one again. -/
theorem witness_LitStrobeFiresTheSubset_roundRobin :
    SelectedNext (roundRobinAt ⟨1, 1, 1⟩ 2) 0 ∧ SelectedNext (roundRobinAt ⟨0, 1, 1⟩ 2) 1 ∧
    SelectedNext (roundRobinAt ⟨0, 0, 1⟩ 2) 2 := by
  refine ⟨⟨by decide, .inl ?_⟩, ⟨by decide, .inr (.inl ?_)⟩, ⟨by decide, .inr (.inr ?_)⟩⟩ <;> decide

theorem witness_FiredSubsetIsTheFirstSix : (0x07F#12 ≠ 0#12) := by decide

theorem witness_TwoStrobesFireEverySetBit :
    (rst0.params.layerPolicy = .lastPublished ∧ (0 : Layer) = rst0.selLayer) ∧
    (roundRobinAt ⟨0, 0xFFF, 0⟩ 2).params.layerPolicy = .roundRobin ∧
    (∀ k : Layer, k ≠ 1 → matrixRead (roundRobinAt ⟨0, 0xFFF, 0⟩ 2).matrix k = 0#12) := by decide

theorem witness_RoundRobinDrivesEveryLitLayer :
    (roundRobinAt ⟨1, 1, 1⟩ 1).params.layerPolicy = .roundRobin ∧
    matrixRead (roundRobinAt ⟨1, 1, 1⟩ 1).matrix 1 ≠ 0#12 := by decide

theorem witness_OnlyTheLastPublishedLayerIsDriven :
    Instr.reset ∉ [.ltick, .htick, .btn .button0] ∧ rst0.params.layerPolicy = .lastPublished ∧
    rst0.params.publishOrder.val.getLast? = some 2 ∧ { rst0 with selLayer := 2 }.selLayer = 2 ∧
    rst0.gndOut = 0#3 := by decide

theorem witness_AudioAdvanceWritesTheSample :
    { rst0 with audioCursor := 3 }.params.hasAudio = true ∧ { rst0 with audioCursor := 3 }.audioCursor < 4 ∧
    pcmLen rst0.params = 4 := by decide

theorem witness_AudioCursorCyclesThroughTheTable :
    { rst0 with audioCursor := 3 }.params.hasAudio = true ∧
    { rst0 with audioCursor := 3 }.audioCursor < pcmLen rst0.params ∧ vectorParams.hasAudio = true := by decide

theorem witness_WithoutAudioNoToneIsWritten :
    (resetState { vectorParams with hasAudio := false } []).params.hasAudio = false ∧
    Instr.reset ∉ [.htick, .ltick] := by decide

theorem witness_AudioIsIndependentOfTheMode :
    rst0.params = (openAt 2).params ∧ rst0.audioCursor = (openAt 2).audioCursor ∧ rst0.toneOut = (openAt 2).toneOut ∧
    rst0 ≠ openAt 2 := by decide

/-- Active(button2, 0) with layer 2 lit and selected, an HTICK waiting. -/
def litState : State :=
  { rst0 with
    inputs := [.word 0x4], tick := 6, dbLastTick := 5, actValid := true, actBtn := .button2,
    matrix := ⟨0, 0, 0xFFF⟩, selLayer := 2 }

theorem witness_OutputsStaySafe : OutputsSafe litState ∧ ∃ t, step litState = .next t :=
  ⟨⟨trivial, rfl⟩, _, rfl⟩

theorem witness_RegistersStayInRange :
    RegistersInRange { litState with tick := 0xFFFF, audioCursor := 3 } ∧ ∃ t, step litState = .next t :=
  ⟨by unfold RegistersInRange; decide, _, rfl⟩

theorem witness_IdleStaysASingleState :
    (rst0.actValid = false ∧ IsIdle rst0 ∧ rst0.matrix = LedMatrix.zero) ∧ ∃ t, step rst0 = .next t :=
  ⟨by decide, _, rfl⟩

theorem witness_ReachableInvariantsAreKept : ReachableInv litState ∧ ∃ t, step litState = .next t := by
  refine ⟨⟨?_, ?_, ?_, ?_⟩, _, rfl⟩
  · unfold DefaultPatterns; decide
  · unfold RegistersInRange; decide
  · unfold MatrixOfMode; decide
  · refine ⟨⟨by decide, .inl rfl⟩, fun h => absurd rfl h⟩

theorem witness_FieldEncodingsStayLegal :
    { rst0 with tick := 0xFFFF }.tick < 2 ^ rst0.params.tickWidth.val ∧
    { rst0 with dbLastTick := 0xFFFF }.dbLastTick < 2 ^ rst0.params.tickWidth.val ∧ rst0.params.hasAudio = true ∧
    { rst0 with audioCursor := 3 }.audioCursor < pcmLen rst0.params ∧
    (rst0.dbLastBtn = .button0 ∧ rst0.actBtn = .button0 ∧ rst0.actValid = false) ∧
    ({ rst0 with dbLastBtn := .button1, actBtn := .button2, actValid := true }.dbLastBtn = .button1 ∧
      { rst0 with dbLastBtn := .button1, actBtn := .button2, actValid := true }.actBtn = .button2 ∧
      { rst0 with dbLastBtn := .button1, actBtn := .button2, actValid := true }.actValid = true) := by decide

theorem witness_OutputPortsShowTheRegisters :
    rst0.params.hasAudio = true ∧
    (resetState { vectorParams with hasAudio := false } []).params.hasAudio = false := by decide

end Sys2Proof.Tests
end

namespace Sys2Proof.Machine

/-! Delivered words and the reset parameters: 00_scope.md, R2 and R5 -/

/-- A word at the head of the inputs is the one the next step processes (R2). -/
theorem nextWord_of_inputs_word {s : State} {w : EventWord} {rest : List Input} (h : s.inputs = .word w :: rest) :
    nextWord s = w := by
  rw [nextWord, h, takeWord_word]

/-- Taking a word at the head of the inputs leaves the later inputs, and every other field. -/
theorem afterTake_of_inputs_word {s : State} {w : EventWord} {rest : List Input} (h : s.inputs = .word w :: rest) :
    afterTake s = setInputs rest s := by
  rw [afterTake, h, takeWord_word]

/-- Where the next word names an event, the step is that event's meaning after the word is taken (R2, R88). -/
theorem step_of_decode_event {s : State} {i : Instr} (h : decode (nextWord s) = .event i) :
    step s = exec i (afterTake s) := by
  rw [step, h]

/-- Settles O1: the word at the head of the inputs is what the step decodes, and what remains is the state from whose
inputs it is taken. -/
theorem stepRunsTheDecodedEvent : Obligations.StepRunsTheDecodedEvent := by
  intro s w rest i hin hdec
  have hnext : decode (nextWord s) = .event i := by rw [nextWord_of_inputs_word hin, hdec]
  calc step s = exec i (afterTake s) := step_of_decode_event hnext
    _ = exec i (setInputs rest s) := by rw [afterTake_of_inputs_word hin]

/-- The machine after reset holds the default parameters, with the free PCM table (R5, log entry 4). -/
@[simp] theorem reset_params : State.reset.params = defaultParams Config.pcm := rfl

/-- Each parameter of R5 that has a default, whatever the PCM table. -/
theorem defaultParams_values (pcm : PcmTable) :
    (defaultParams pcm).tickWidth.val = 16 ∧ (defaultParams pcm).hasAudio = true ∧
    (defaultParams pcm).layerPolicy = .lastPublished ∧ (defaultParams pcm).publishOrder.val = [0, 1, 2] ∧
    (defaultParams pcm).chaseSeed = 0x800#12 ∧ (defaultParams pcm).sparseSeed = 0x924#12 ∧
    (defaultParams pcm).sparseEnd = 0x249#12 ∧ (defaultParams pcm).full = 0xFFF#12 :=
  ⟨rfl, rfl, rfl, rfl, rfl, rfl, rfl, rfl⟩

/-- Settles O16: the reset state's parameters are `defaultParams`, whose values do not depend on the PCM table. -/
theorem resetParametersAreTheDefaults : Obligations.ResetParametersAreTheDefaults := by
  unfold Obligations.ResetParametersAreTheDefaults
  rw [reset_params]
  exact defaultParams_values Config.pcm

end Sys2Proof.Machine

namespace Sys2Proof.Machine

/-! The state after reset: 10_state.md, R17 -/

/-- Settles O15: `State.reset` is `resetState` of the default parameters, which clears register by register. -/
theorem resetStateIsAllZero : Obligations.ResetStateIsAllZero := by
  unfold Obligations.ResetStateIsAllZero State.reset
  simp [LedMatrix.zero, buttonField]

/-! What each event does to the state: the whole next state of an operation, and its frame -/

/-- The audio part of a high-rate tick, register by register (R80, R81). -/
theorem audioTick_eq (s : State) :
    audioTick s = { s with
      toneOut := if s.params.hasAudio then memReadPcm s.params s.audioCursor else s.toneOut
      audioCursor := if s.params.hasAudio then (s.audioCursor + 1) % pcmLen s.params else s.audioCursor
      trace := s.trace ++ if s.params.hasAudio then [.tone (memReadPcm s.params s.audioCursor)] else [] } := by
  by_cases h : s.params.hasAudio = true
  · simp [audioTick, h, audioAdvance, setAudioCursor, outTone]
  · simp [audioTick, h]

@[simp] theorem audioTick_frame (s : State) :
    (audioTick s).params = s.params ∧ (audioTick s).inputs = s.inputs ∧ (audioTick s).tick = s.tick ∧
    (audioTick s).dbLastTick = s.dbLastTick ∧ (audioTick s).dbLastBtn = s.dbLastBtn ∧
    (audioTick s).actValid = s.actValid ∧ (audioTick s).actBtn = s.actBtn ∧ (audioTick s).speed = s.speed ∧
    (audioTick s).matrix = s.matrix ∧ (audioTick s).selLayer = s.selLayer ∧
    (audioTick s).muxCursor = s.muxCursor ∧ (audioTick s).ledOut = s.ledOut ∧ (audioTick s).gndOut = s.gndOut := by
  simp [audioTick_eq]

/-- The layer that the next strobe drives (R71, R72). -/
def targetLayer (s : State) : Layer :=
  match s.params.layerPolicy with
  | .lastPublished => s.selLayer
  | .roundRobin => nextLitLayer s.matrix s.selLayer

/-- The mask that the next strobe drives (R69). -/
def targetMask (s : State) : Mask :=
  matrixRead s.matrix (targetLayer s)

theorem targetLayer_of_lastPublished {s : State} (h : s.params.layerPolicy = .lastPublished) :
    targetLayer s = s.selLayer := by
  simp [targetLayer, h]

theorem targetLayer_of_roundRobin {s : State} (h : s.params.layerPolicy = .roundRobin) :
    targetLayer s = nextLitLayer s.matrix s.selLayer := by
  simp [targetLayer, h]

@[simp] theorem targetLayer_audioTick (s : State) : targetLayer (audioTick s) = targetLayer s := by
  simp [targetLayer]

@[simp] theorem targetMask_audioTick (s : State) : targetMask (audioTick s) = targetMask s := by
  simp [targetMask]

theorem selectLayer_eq (s : State) : selectLayer s = setSelLayer (targetLayer s) s := by
  rcases selectLayer_cases s with ⟨hp, hs⟩ | ⟨hp, hs⟩
  · rw [hs, targetLayer_of_lastPublished hp, setSelLayer]
  · rw [hs, targetLayer_of_roundRobin hp]

@[simp] theorem matrixRead_zero (l : Layer) : matrixRead LedMatrix.zero l = 0#12 := by
  simp [matrixRead, LedMatrix.zero]

/-- A matrix is cleared when the three masks from any layer on, in cyclic order, are zero. -/
theorem eq_zero_of_matrixRead {m : LedMatrix} {l : Layer} (h0 : matrixRead m l = 0#12)
    (h1 : matrixRead m (l + 1) = 0#12) (h2 : matrixRead m (l + 2) = 0#12) : m = LedMatrix.zero := by
  obtain ⟨a, b, c⟩ := m
  fin_cases l <;> simp_all [matrixRead, LedMatrix.zero]

/-- ROUND_ROBIN finds a lit layer unless all three are dark (R72). -/
theorem matrixRead_nextLitLayer_eq_zero_iff (m : LedMatrix) (l : Layer) :
    matrixRead m (nextLitLayer m l) = 0#12 ↔ m = LedMatrix.zero := by
  refine ⟨fun h => ?_, fun h => by rw [h, matrixRead_zero]⟩
  unfold nextLitLayer at h
  split at h
  · contradiction
  · split at h
    · contradiction
    · next h1 h2 => exact eq_zero_of_matrixRead h (not_not.mp h1) (not_not.mp h2)

/-- The strobe's own test, on the mask it would drive, is the spec's condition for a dark strobe (R73). -/
theorem targetMask_eq_zero_iff (s : State) : targetMask s = 0#12 ↔ NextStrobeDark s := by
  unfold targetMask targetLayer NextStrobeDark
  cases s.params.layerPolicy
  · exact Iff.rfl
  · exact matrixRead_nextLitLayer_eq_zero_iff s.matrix s.selLayer

/-- A dark strobe drives no layer, so it leaves the selected one as it is (R72, R73). -/
theorem targetLayer_of_dark {s : State} (h : NextStrobeDark s) : targetLayer s = s.selLayer := by
  unfold NextStrobeDark at h
  cases hp : s.params.layerPolicy
  · exact targetLayer_of_lastPublished hp
  · rw [hp] at h
    rw [targetLayer_of_roundRobin hp, h]
    simp [nextLitLayer]

/-- Firing as its register updates and output writes, in their order (R74 to R76). -/
theorem fireLayer_eq (t : Mask) (s : State) :
    fireLayer t s =
      outGnd (onehot3 s.selLayer) (outLed (fireSubset t s.muxCursor).1
        (setMuxCursor ((fireSubset t s.muxCursor).2 + 1) s)) := by
  rw [fireLayer]

/-- The strobe by its target: switch off, select, and fire a mask that is not zero (R69 to R76). -/
theorem strobe_eq (s : State) :
    strobe s =
      if targetMask s = 0#12 then setSelLayer (targetLayer s) (breakOutputs s)
      else fireLayer (targetMask s) (setSelLayer (targetLayer s) (breakOutputs s)) := by
  unfold strobe
  rw [selectLayer_eq]
  rfl

/-- A dark strobe switches the outputs off and does nothing more (R70, R73). -/
theorem strobe_of_dark {s : State} (h : NextStrobeDark s) : strobe s = breakOutputs s := by
  rw [strobe_eq, if_pos ((targetMask_eq_zero_iff s).mpr h), targetLayer_of_dark h]
  rfl

/-- A strobe that is not dark switches the outputs off, selects the target layer and fires its mask (R70 to R76). -/
theorem strobe_of_lit {s : State} (h : ¬ NextStrobeDark s) :
    strobe s = fireLayer (targetMask s) (setSelLayer (targetLayer s) (breakOutputs s)) := by
  rw [strobe_eq, if_neg (mt (targetMask_eq_zero_iff s).mp h)]

@[simp] theorem strobe_frame (s : State) :
    (strobe s).params = s.params ∧ (strobe s).inputs = s.inputs ∧ (strobe s).tick = s.tick ∧
    (strobe s).dbLastTick = s.dbLastTick ∧ (strobe s).dbLastBtn = s.dbLastBtn ∧
    (strobe s).actValid = s.actValid ∧ (strobe s).actBtn = s.actBtn ∧ (strobe s).speed = s.speed ∧
    (strobe s).matrix = s.matrix ∧ (strobe s).audioCursor = s.audioCursor ∧ (strobe s).toneOut = s.toneOut := by
  by_cases h : NextStrobeDark s
  · simp [strobe_of_dark h, breakOutputs]
  · simp [strobe_of_lit h, fireLayer, breakOutputs]

/-- A strobe leaves the target layer selected (R71, R72). -/
theorem strobe_selLayer (s : State) : (strobe s).selLayer = targetLayer s := by
  by_cases h : NextStrobeDark s
  · simp [strobe_of_dark h, breakOutputs, targetLayer_of_dark h]
  · simp [strobe_of_lit h, fireLayer]

/-- A dark strobe keeps the cursor (R73). -/
theorem strobe_muxCursor_of_dark {s : State} (h : NextStrobeDark s) : (strobe s).muxCursor = s.muxCursor := by
  simp [strobe_of_dark h, breakOutputs]

@[simp] theorem countTick_frame (s : State) :
    (countTick s).params = s.params ∧ (countTick s).inputs = s.inputs ∧
    (countTick s).dbLastTick = s.dbLastTick ∧ (countTick s).dbLastBtn = s.dbLastBtn ∧
    (countTick s).actValid = s.actValid ∧ (countTick s).actBtn = s.actBtn ∧ (countTick s).speed = s.speed ∧
    (countTick s).matrix = s.matrix ∧ (countTick s).selLayer = s.selLayer ∧
    (countTick s).muxCursor = s.muxCursor ∧ (countTick s).audioCursor = s.audioCursor ∧
    (countTick s).ledOut = s.ledOut ∧ (countTick s).gndOut = s.gndOut ∧ (countTick s).toneOut = s.toneOut ∧
    (countTick s).trace = s.trace := by
  simp [countTick]

@[simp] theorem countTick_tick (s : State) : (countTick s).tick = tickSucc s.params s.tick := rfl

/-- The layer that a frame leaves selected (R60). -/
def publishedLayer (s : State) : Layer :=
  if s.params.layerPolicy = .lastPublished then s.params.publishOrder.val.getLastD s.selLayer else s.selLayer

/-- A frame writes the generated matrix and the selected layer, and nothing else (R59, R60). -/
theorem frame_eq (s : State) :
    frame s = setSelLayer (publishedLayer s) (setMatrix (patternGen s.params s.actValid s.actBtn s.matrix) s) := by
  unfold frame publishedLayer
  rw [publishAll_eq]
  by_cases hp : s.params.layerPolicy = .lastPublished
  · simp [hp]
  · simp [hp, setSelLayer, setMatrix]

@[simp] theorem frame_frame (s : State) :
    (frame s).params = s.params ∧ (frame s).inputs = s.inputs ∧ (frame s).tick = s.tick ∧
    (frame s).dbLastTick = s.dbLastTick ∧ (frame s).dbLastBtn = s.dbLastBtn ∧
    (frame s).actValid = s.actValid ∧ (frame s).actBtn = s.actBtn ∧ (frame s).speed = s.speed ∧
    (frame s).muxCursor = s.muxCursor ∧ (frame s).audioCursor = s.audioCursor ∧
    (frame s).ledOut = s.ledOut ∧ (frame s).gndOut = s.gndOut ∧ (frame s).toneOut = s.toneOut ∧
    (frame s).trace = s.trace := by
  simp [frame_eq]

@[simp] theorem frame_matrix (s : State) :
    (frame s).matrix = patternGen s.params s.actValid s.actBtn s.matrix := by
  simp [frame_eq]

@[simp] theorem frame_selLayer (s : State) : (frame s).selLayer = publishedLayer s := by
  simp [frame_eq]

/-- What a logical tick keeps, eligible or not (R43). -/
@[simp] theorem logicalTick_frame (s : State) :
    (logicalTick s).params = s.params ∧ (logicalTick s).inputs = s.inputs ∧
    (logicalTick s).dbLastTick = s.dbLastTick ∧ (logicalTick s).dbLastBtn = s.dbLastBtn ∧
    (logicalTick s).actValid = s.actValid ∧ (logicalTick s).actBtn = s.actBtn ∧
    (logicalTick s).speed = s.speed ∧ (logicalTick s).muxCursor = s.muxCursor ∧
    (logicalTick s).audioCursor = s.audioCursor ∧ (logicalTick s).ledOut = s.ledOut ∧
    (logicalTick s).gndOut = s.gndOut ∧ (logicalTick s).toneOut = s.toneOut ∧
    (logicalTick s).trace = s.trace := by
  rcases logicalTick_cases s with ⟨_, h⟩ | ⟨_, h⟩ <;> simp [h]

@[simp] theorem logicalTick_tick (s : State) : (logicalTick s).tick = tickSucc s.params s.tick := by
  rcases logicalTick_cases s with ⟨_, h⟩ | ⟨_, h⟩ <;> simp [h]

@[simp] theorem debouncerRecord_frame (b : ButtonId) (s : State) :
    (debouncerRecord b s).params = s.params ∧ (debouncerRecord b s).inputs = s.inputs ∧
    (debouncerRecord b s).tick = s.tick ∧ (debouncerRecord b s).dbLastTick = s.tick ∧
    (debouncerRecord b s).dbLastBtn = b ∧ (debouncerRecord b s).actValid = s.actValid ∧
    (debouncerRecord b s).actBtn = s.actBtn ∧ (debouncerRecord b s).speed = s.speed ∧
    (debouncerRecord b s).matrix = s.matrix ∧ (debouncerRecord b s).selLayer = s.selLayer ∧
    (debouncerRecord b s).muxCursor = s.muxCursor ∧ (debouncerRecord b s).audioCursor = s.audioCursor ∧
    (debouncerRecord b s).ledOut = s.ledOut ∧ (debouncerRecord b s).gndOut = s.gndOut ∧
    (debouncerRecord b s).toneOut = s.toneOut ∧ (debouncerRecord b s).trace = s.trace := by
  simp [debouncerRecord]

/-- A press changes the mode and the matrix alone (R54 to R56). -/
@[simp] theorem press_frame (b : ButtonId) (s : State) :
    (press b s).params = s.params ∧ (press b s).inputs = s.inputs ∧ (press b s).tick = s.tick ∧
    (press b s).dbLastTick = s.dbLastTick ∧ (press b s).dbLastBtn = s.dbLastBtn ∧
    (press b s).selLayer = s.selLayer ∧ (press b s).muxCursor = s.muxCursor ∧
    (press b s).audioCursor = s.audioCursor ∧ (press b s).ledOut = s.ledOut ∧
    (press b s).gndOut = s.gndOut ∧ (press b s).toneOut = s.toneOut ∧ (press b s).trace = s.trace := by
  rcases press_cases b s with ⟨_, _, _, h⟩ | ⟨_, _, _, h⟩ | ⟨_, h⟩
  · simp [h, turnOff]
  · simp [h, speedUp]
  · simp [h, switchTo]

/-! The frame of the events: 10_state.md, R7 -/

theorem nextStrobeDark_audioTick_iff (s : State) : NextStrobeDark (audioTick s) ↔ NextStrobeDark s := by
  rw [← targetMask_eq_zero_iff, ← targetMask_eq_zero_iff, targetMask_audioTick]

/-- A high-rate tick changes the selected layer under ROUND_ROBIN alone (R71, R72). -/
theorem roundRobin_of_targetLayer_ne {s : State} (h : targetLayer s ≠ s.selLayer) :
    s.params.layerPolicy = .roundRobin := by
  cases hp : s.params.layerPolicy
  · exact absurd (targetLayer_of_lastPublished hp) h
  · rfl

/-- A high-rate tick moves the multiplexer's cursor only where it fires (R73, R75). -/
theorem not_nextStrobeDark_of_muxCursor_ne {s : State} (h : (strobe (audioTick s)).muxCursor ≠ s.muxCursor) :
    ¬ NextStrobeDark s := fun hd =>
  h (by simp [strobe_muxCursor_of_dark ((nextStrobeDark_audioTick_iff s).mpr hd)])

/-- A high-rate tick changes the audio registers only where there is an AudioStreamer (R80). -/
theorem hasAudio_of_audioTick_ne {s : State}
    (h : (audioTick s).audioCursor ≠ s.audioCursor ∨ (audioTick s).toneOut ≠ s.toneOut) :
    s.params.hasAudio = true := by
  by_contra hn
  simp [audioTick_without s (Bool.eq_false_iff.mpr hn)] at h

/-- A logical tick changes the matrix only in a frame (R57 to R61). -/
theorem nextTickEligible_of_matrix_ne {s : State} (h : (logicalTick s).matrix ≠ s.matrix) :
    NextTickEligible s := by
  rcases logicalTick_cases s with ⟨_, heq⟩ | ⟨he, _⟩
  · simp [heq] at h
  · exact he

/-- A logical tick changes the selected layer only in a frame that publishes it (R60). -/
theorem eligible_lastPublished_of_selLayer_ne {s : State} (h : (logicalTick s).selLayer ≠ s.selLayer) :
    NextTickEligible s ∧ s.params.layerPolicy = .lastPublished := by
  rcases logicalTick_cases s with ⟨_, heq⟩ | ⟨he, heq⟩
  · simp [heq] at h
  · refine ⟨he, ?_⟩
    by_contra hp
    simp [heq, publishedLayer, hp] at h

/-- Settles O12: each event changes only what its component owns, by the frames of the audio tick, the strobe, the
logical tick and the press. -/
theorem onlyOwnersChangeRegisters : Obligations.OnlyOwnersChangeRegisters := by
  intro i s t h
  rcases exec_cases h with
    ⟨rfl, rfl⟩ | ⟨rfl, rfl⟩ | ⟨rfl, rfl⟩ | ⟨rfl, rfl⟩ | ⟨b, rfl, hw, rfl⟩ | ⟨b, rfl, _, rfl⟩
  · simp
  · simp
  · simpa [strobe_selLayer] using
      ⟨roundRobin_of_targetLayer_ne, not_nextStrobeDark_of_muxCursor_ne, hasAudio_of_audioTick_ne⟩
  · simpa using ⟨nextTickEligible_of_matrix_ne, eligible_lastPublished_of_selLayer_ne⟩
  · simp [hw]
  · simp

/-! The last button: 10_state.md, R9 -/

/-- `db_last_btn <- b` alone. -/
def setLastBtn (b : ButtonId) (s : State) : State :=
  { s with dbLastBtn := b }

/-- Writing the button that is there changes nothing. -/
theorem setLastBtn_self {b : ButtonId} {s : State} (h : s.dbLastBtn = b) : setLastBtn b s = s := by
  rw [← h]
  rfl

theorem audioTick_setLastBtn (b : ButtonId) (s : State) :
    audioTick (setLastBtn b s) = setLastBtn b (audioTick s) := by
  rw [audioTick_eq, audioTick_eq]
  rfl

theorem targetMask_setLastBtn (b : ButtonId) (s : State) : targetMask (setLastBtn b s) = targetMask s := rfl

theorem fireLayer_setLastBtn (m : Mask) (b : ButtonId) (s : State) :
    fireLayer m (setLastBtn b s) = setLastBtn b (fireLayer m s) := by
  have hcur : (setLastBtn b s).muxCursor = s.muxCursor := rfl
  simp only [fireLayer_eq, hcur]
  generalize fireSubset m s.muxCursor = shot
  rfl

theorem strobe_setLastBtn (b : ButtonId) (s : State) : strobe (setLastBtn b s) = setLastBtn b (strobe s) := by
  by_cases h : NextStrobeDark s
  · rw [strobe_of_dark h, strobe_of_dark (s := setLastBtn b s) h]
    rfl
  · rw [strobe_of_lit h, strobe_of_lit (s := setLastBtn b s) h, targetMask_setLastBtn, ← fireLayer_setLastBtn]
    rfl

theorem logicalTick_setLastBtn (b : ButtonId) (s : State) :
    logicalTick (setLastBtn b s) = setLastBtn b (logicalTick s) := by
  rcases logicalTick_cases s with ⟨he, h⟩ | ⟨he, h⟩ <;>
    rcases logicalTick_cases (setLastBtn b s) with ⟨he', h'⟩ | ⟨he', h'⟩
  · rw [h, h']
    rfl
  · exact absurd he' he
  · exact absurd he he'
  · rw [h, h', frame_eq, frame_eq]
    rfl

/-- Recording a press forgets the button recorded before it (R48). -/
theorem debouncerRecord_setLastBtn (b b' : ButtonId) (s : State) :
    debouncerRecord b (setLastBtn b' s) = debouncerRecord b s := rfl

/-- One event answers the same with another `db_last_btn`, but for that register. -/
theorem exec_setLastBtn (i : Instr) (s : State) (b : ButtonId) :
    ∃ t c, exec i s = .next t ∧ exec i (setLastBtn b s) = .next (setLastBtn c t) := by
  cases i with
  | idle => exact ⟨s, b, rfl, rfl⟩
  | reset => exact ⟨resetState s.params s.inputs, .button0, rfl, rfl⟩
  | htick =>
    exact ⟨strobe (audioTick s), b, rfl, by rw [exec_htick, audioTick_setLastBtn, strobe_setLastBtn]⟩
  | ltick => exact ⟨logicalTick s, b, rfl, by rw [exec_ltick, logicalTick_setLastBtn]⟩
  | btn b' =>
    by_cases hw : WindowOpen s
    · refine ⟨press b' (debouncerRecord b' s), b', exec_btn_accepted b' s hw, ?_⟩
      rw [exec_btn_accepted b' (setLastBtn b s) hw, debouncerRecord_setLastBtn]
      rw [setLastBtn_self (by simp)]
    · exact ⟨s, b, exec_btn_rejected b' s hw, exec_btn_rejected b' (setLastBtn b s) hw⟩

/-- Settles O45, by induction on the events: each keeps two states equal but for `db_last_btn`. -/
theorem lastButtonIsNeverObserved : Obligations.LastButtonIsNeverObserved := by
  intro es
  induction es with
  | nil => exact fun s b => ⟨s, b, rfl, rfl⟩
  | cons e es ih =>
    intro s b
    obtain ⟨u, c, hs, hb⟩ := exec_setLastBtn e s b
    obtain ⟨t, d, ht, hd⟩ := ih u c
    exact ⟨t, d, (runEvents_cons es hs).trans ht, (runEvents_cons es hb).trans hd⟩

/-! Steps and events -/

/-- A step that answers a next state ran an event on the state from whose inputs its word is taken (R2). -/
theorem exec_of_step_next {s t : State} (h : step s = .next t) : ∃ i, exec i (afterTake s) = .next t := by
  rcases step_cases s with ⟨i, _, hs⟩ | ⟨_, hs⟩
  · exact ⟨i, hs ▸ h⟩
  · rw [hs] at h
    cases h

/-- What does not look at the inputs, and every event keeps, every step keeps. -/
theorem step_keeps {P : State → Prop} (hin : ∀ (ins : List Input) (s : State), P s → P (setInputs ins s))
    (hex : ∀ (i : Instr) (s t : State), P s → exec i s = .next t → P t) :
    ∀ s t : State, P s → step s = .next t → P t := by
  intro s t hs h
  obtain ⟨i, hi⟩ := exec_of_step_next h
  exact hex i (afterTake s) t (hin _ s hs) hi

/-! The ranges of the counters and the audio cursor: 10_state.md, R20 item 1 -/

theorem tickModulus_pos (p : Params) : 0 < tickModulus p :=
  Nat.lt_of_lt_of_le (by decide) (sixteen_le_tickModulus p)

theorem registersInRange_resetState (p : Params) (ins : List Input) : RegistersInRange (resetState p ins) :=
  ⟨tickModulus_pos p, tickModulus_pos p, pcmLen_pos p⟩

theorem audioTick_audioCursor_lt {s : State} (h : s.audioCursor < pcmLen s.params) :
    (audioTick s).audioCursor < pcmLen s.params := by
  rw [audioTick_eq]
  dsimp only
  split
  · exact Nat.mod_lt _ (pcmLen_pos s.params)
  · exact h

theorem exec_keeps_registersInRange (i : Instr) (s t : State) (hs : RegistersInRange s)
    (h : exec i s = .next t) : RegistersInRange t := by
  obtain ⟨htick, hlast, haudio⟩ := hs
  rcases exec_cases h with
    ⟨_, rfl⟩ | ⟨_, rfl⟩ | ⟨_, rfl⟩ | ⟨_, rfl⟩ | ⟨b, _, _, rfl⟩ | ⟨b, _, _, rfl⟩
  · exact ⟨htick, hlast, haudio⟩
  · exact registersInRange_resetState s.params s.inputs
  · simpa [RegistersInRange] using ⟨htick, hlast, audioTick_audioCursor_lt haudio⟩
  · simpa [RegistersInRange] using ⟨tickSucc_lt s.params s.tick, hlast, haudio⟩
  · simpa [RegistersInRange] using ⟨htick, haudio⟩
  · exact ⟨htick, hlast, haudio⟩

/-- Settles O49: every write of a counter or of the audio cursor is a reduction modulo its range, a copy of the counter,
or zero. -/
theorem registersStayInRange : Obligations.RegistersStayInRange :=
  step_keeps (fun _ _ hs => hs) exec_keeps_registersInRange

/-! Idle: 10_state.md, R10 and R20 item 2 -/

/-- Without an active button the mode is Idle and the matrix is cleared (R20 item 2). -/
def IdleIsClear (s : State) : Prop :=
  s.actValid = false → IsIdle s ∧ s.matrix = LedMatrix.zero

theorem idleIsClear_resetState (p : Params) (ins : List Input) : IdleIsClear (resetState p ins) :=
  fun _ => ⟨⟨rfl, rfl, rfl⟩, rfl⟩

/-- The matrix after a logical tick: a frame's where the tick is eligible, else the old one (R57 to R61). -/
theorem logicalTick_matrix_cases (s : State) :
    (logicalTick s).matrix = s.matrix ∨
    (logicalTick s).matrix = patternGen s.params s.actValid s.actBtn s.matrix := by
  rcases logicalTick_cases s with ⟨_, h⟩ | ⟨_, h⟩
  · exact .inl (by simp [h])
  · exact .inr (by simp [h])

/-- Without an active button a logical tick keeps the matrix (R63). -/
theorem logicalTick_matrix_of_idle {s : State} (h : s.actValid = false) : (logicalTick s).matrix = s.matrix := by
  rcases logicalTick_matrix_cases s with hm | hm
  · exact hm
  · rw [hm, h, patternGen_idle]

/-- A press ends in an active mode, or in Idle with the matrix cleared (R54 to R56). -/
theorem idleIsClear_press (b : ButtonId) (s : State) : IdleIsClear (press b s) := by
  rcases press_cases b s with ⟨_, _, _, h⟩ | ⟨hv, _, _, h⟩ | ⟨_, h⟩
  · simp [IdleIsClear, IsIdle, h, turnOff]
  · simp [IdleIsClear, h, speedUp, hv]
  · simp [IdleIsClear, h, switchTo]

theorem exec_keeps_idleIsClear (i : Instr) (s t : State) (hs : IdleIsClear s)
    (h : exec i s = .next t) : IdleIsClear t := by
  rcases exec_cases h with
    ⟨_, rfl⟩ | ⟨_, rfl⟩ | ⟨_, rfl⟩ | ⟨_, rfl⟩ | ⟨b, _, _, rfl⟩ | ⟨b, _, _, rfl⟩
  · exact hs
  · exact idleIsClear_resetState s.params s.inputs
  · simpa [IdleIsClear, IsIdle] using hs
  · intro hv
    have hv' : s.actValid = false := by simpa using hv
    simpa [logicalTick_matrix_of_idle hv', IsIdle] using hs hv'
  · exact idleIsClear_press b (debouncerRecord b s)
  · exact hs

/-- Settles O50: a press enters Idle only by turning off, which clears the matrix, and in Idle a logical tick generates
nothing. -/
theorem idleStaysASingleState : Obligations.IdleStaysASingleState :=
  step_keeps (fun _ _ hs => hs) exec_keeps_idleIsClear

end Sys2Proof.Machine

namespace Sys2Proof.Machine

/-! The fired subset: at most six LEDs, and one where the target is lit (44_multiplexer.md, R74, R77) -/

theorem countP_or_eq_le (p : BitPos → Bool) (i : BitPos) (l : List BitPos) :
    l.countP (fun j => p j || decide (i = j)) ≤ l.countP p + l.count i := by
  induction l with
  | nil => simp
  | cons j l ih =>
    simp only [List.countP_cons, List.count_cons, Bool.or_eq_true, decide_eq_true_eq, beq_iff_eq, eq_comm (a := j)]
    by_cases hi : i = j
    · rw [if_pos (.inr hi), if_pos hi]
      omega
    · simp only [hi, or_false, if_false]
      omega

theorem count_bitPositions (i : BitPos) : bitPositions.count i = 1 := by
  revert i; decide

/-- Setting a bit lights at most one LED more. -/
theorem popcount12_setBit_le (f : Mask) (i : BitPos) : popcount12 (setBit f i) ≤ popcount12 f + 1 := by
  have h := countP_or_eq_le (testBit f) i bitPositions
  rw [count_bitPositions] at h
  rwa [← funext (testBit_setBit f i)] at h

@[simp] theorem popcount12_zero : popcount12 0#12 = 0 := by decide

theorem setBit_ne_zero (f : Mask) (i : BitPos) : setBit f i ≠ 0#12 := by
  intro h
  have hi : testBit (setBit f i) i = true := by simp [testBit_setBit]
  simp [h] at hi

/-- What the scan keeps: it takes at most six positions, fires no more LEDs than it takes, and fires one once it has
taken one (R74). -/
structure FireScan.Counted (a : FireScan) : Prop where
  taken_le : a.taken ≤ 6
  popcount_le : popcount12 a.fired ≤ a.taken
  lit : 0 < a.taken → a.fired ≠ 0#12

theorem fireStep_keeps_counted {a : FireScan} (h : a.Counted) (t : Mask) (c k : BitPos) :
    (fireStep t c a k).Counted := by
  rcases fireStep_cases t c a k with ⟨hlt, _, hs⟩ | ⟨_, hs⟩
  · have hpop := popcount12_setBit_le a.fired (c + k)
    have hcount := h.popcount_le
    rw [hs]
    exact ⟨Nat.succ_le_of_lt hlt, by simp only; omega, fun _ => setBit_ne_zero a.fired (c + k)⟩
  · rw [hs]
    exact h

theorem fireScan_counted (t : Mask) (c : BitPos) : (fireScan t c).Counted :=
  List.foldlRecOn bitPositions (fireStep t c) ⟨by simp, by simp, by simp⟩
    fun _ h k _ => fireStep_keeps_counted h t c k

/-- The scan takes the set positions it meets, up to six (R74). -/
theorem foldl_fireStep_taken (t : Mask) (c : BitPos) (ks : List BitPos) (a : FireScan) (h : a.taken ≤ 6) :
    (ks.foldl (fireStep t c) a).taken = min 6 (a.taken + ks.countP fun k => testBit t (c + k)) := by
  induction ks generalizing a with
  | nil => simp [h]
  | cons k ks ih =>
    rw [List.foldl_cons, List.countP_cons]
    rcases fireStep_cases t c a k with ⟨hlt, hbit, hs⟩ | ⟨hn, hs⟩
    · rw [ih _ (by rw [hs]; simp only; omega), hs, if_pos hbit]
      simp only
      omega
    · rw [hs, ih a h]
      by_cases hbit : testBit t (c + k) = true
      · have hfull : a.taken = 6 := by
          by_contra hne
          exact hn ⟨by omega, hbit⟩
        rw [hfull]
        omega
      · rw [if_neg hbit]
        rfl

theorem fireSubset_fst (t : Mask) (c : BitPos) : (fireSubset t c).1 = (fireScan t c).fired := by
  rw [fireSubset]

/-- The fired subset keeps the current budget (R77). -/
theorem popcount12_fireSubset_le (t : Mask) (c : BitPos) : popcount12 (fireSubset t c).1 ≤ 6 := by
  rw [fireSubset_fst]
  exact (fireScan_counted t c).popcount_le.trans (fireScan_counted t c).taken_le

/-- A lit target has a position that the scan takes, so an LED is fired (R74). -/
theorem fireSubset_ne_zero {t : Mask} (h : t ≠ 0#12) (c : BitPos) : (fireSubset t c).1 ≠ 0#12 := by
  obtain ⟨i, hi⟩ := exists_testBit h
  have hcount : 0 < bitPositions.countP fun k => testBit t (c + k) :=
    List.countP_pos_iff.mpr ⟨i - c, mem_bitPositions _, by simpa using hi⟩
  have htaken : (fireScan t c).taken = min 6 (0 + bitPositions.countP fun k => testBit t (c + k)) :=
    foldl_fireStep_taken t c bitPositions _ (by simp)
  rw [fireSubset_fst]
  exact (fireScan_counted t c).lit (by omega)

/-! The output trace: one rule for each output write (10_state.md, R16; 70_reset_and_hazards.md, R101 and R102) -/

@[simp] theorem pinsAfter_append (p : Pins) (ws vs : List Output) :
    pinsAfter p (ws ++ vs) = pinsAfter (pinsAfter p ws) vs :=
  List.foldl_append

theorem pinsAfter_singleton (p : Pins) (w : Output) : pinsAfter p [w] = p.write w := rfl

theorem safeWrites_append (p : Pins) (ws vs : List Output) :
    SafeWrites p (ws ++ vs) ↔ SafeWrites p ws ∧ SafeWrites (pinsAfter p ws) vs := by
  induction ws generalizing p with
  | nil => simp [SafeWrites, pinsAfter]
  | cons w ws ih => simp [SafeWrites, ih, pinsAfter, and_assoc]

/-- Safe writes from outputs within the budget leave outputs within the budget. -/
theorem withinBudget_pinsAfter {p : Pins} {ws : List Output} (hp : p.withinBudget) (h : SafeWrites p ws) :
    (pinsAfter p ws).withinBudget := by
  induction ws generalizing p with
  | nil => exact hp
  | cons w ws ih =>
    obtain ⟨_, hw, hrest⟩ := h
    exact ih hw hrest

theorem withinBudget_atReset : Pins.atReset.withinBudget :=
  ⟨by decide, .inl rfl⟩

/-- The outputs that a safe state holds are within the budget. -/
theorem OutputsSafe.withinBudget {s : State} (h : OutputsSafe s) : (pinsOf s).withinBudget := by
  obtain ⟨hsafe, hpins⟩ := h
  rw [hpins]
  exact withinBudget_pinsAfter withinBudget_atReset hsafe

/-- The rule of one output write, whatever port it is to. -/
theorem OutputsSafe.append_write {s t : State} {w : Output} (hs : OutputsSafe s) (htrace : t.trace = s.trace ++ [w])
    (hpins : pinsOf t = (pinsOf s).write w) (hbreak : (pinsOf s).breaksBeforeMake w)
    (hbudget : ((pinsOf s).write w).withinBudget) : OutputsSafe t := by
  obtain ⟨hsafe, hold⟩ := hs
  rw [hold] at hpins hbreak hbudget
  refine ⟨?_, ?_⟩
  · rw [htrace, safeWrites_append]
    exact ⟨hsafe, hbreak, hbudget, trivial⟩
  · rw [hpins, htrace, pinsAfter_append, pinsAfter_singleton]

/-- An LED write is safe where no ground line is asserted, or where it switches off, if it keeps the budget. -/
theorem OutputsSafe.outLed {s : State} {v : Mask} (hs : OutputsSafe s) (hbreak : s.gndOut = 0#3 ∨ v = 0#12)
    (hbudget : popcount12 v ≤ 6) : OutputsSafe (outLed v s) := by
  obtain ⟨_, hgnd⟩ := hs.withinBudget
  exact hs.append_write rfl rfl hbreak ⟨hbudget, hgnd⟩

/-- A ground write is safe where no ground line is asserted, or where it releases them, if it asserts at most one. -/
theorem OutputsSafe.outGnd {s : State} {v : GroundLines} (hs : OutputsSafe s) (hbreak : s.gndOut = 0#3 ∨ v = 0#3)
    (hbudget : v = 0#3 ∨ ∃ l : Layer, v = onehot3 l) : OutputsSafe (outGnd v s) := by
  obtain ⟨hled, _⟩ := hs.withinBudget
  exact hs.append_write rfl rfl hbreak ⟨hled, hbudget⟩

/-- A tone write is safe. -/
theorem OutputsSafe.outTone {s : State} (hs : OutputsSafe s) (v : Byte) : OutputsSafe (outTone v s) :=
  hs.append_write rfl rfl trivial hs.withinBudget

/-- What changes neither the output registers nor the trace keeps the outputs safe. -/
theorem OutputsSafe.congr {s t : State} (hs : OutputsSafe s) (htrace : t.trace = s.trace)
    (hpins : pinsOf t = pinsOf s) : OutputsSafe t := by
  rwa [OutputsSafe, htrace, hpins]

theorem outputsSafe_resetState (p : Params) (ins : List Input) : OutputsSafe (resetState p ins) :=
  ⟨trivial, rfl⟩

theorem OutputsSafe.audioTick {s : State} (hs : OutputsSafe s) : OutputsSafe (audioTick s) := by
  unfold Machine.audioTick
  split
  · exact (hs.outTone (memReadPcm s.params s.audioCursor)).congr rfl rfl
  · exact hs

/-- Switching off is safe in every state (R70). -/
theorem OutputsSafe.breakOutputs {s : State} (hs : OutputsSafe s) : OutputsSafe (breakOutputs s) :=
  (hs.outLed (.inr rfl) (by simp)).outGnd (.inr rfl) (.inl rfl)

/-- Firing is safe once the ground lines are off (R74, R76). -/
theorem OutputsSafe.fireLayer {s : State} (hs : OutputsSafe s) (hoff : s.gndOut = 0#3) (t : Mask) :
    OutputsSafe (fireLayer t s) := by
  have hpop := popcount12_fireSubset_le t s.muxCursor
  rw [fireLayer_eq]
  generalize fireSubset t s.muxCursor = shot at hpop ⊢
  have hcur : OutputsSafe (setMuxCursor (shot.2 + 1) s) := hs.congr rfl rfl
  exact (hcur.outLed (.inl hoff) hpop).outGnd (.inl hoff) (.inr ⟨s.selLayer, rfl⟩)

theorem OutputsSafe.strobe {s : State} (hs : OutputsSafe s) : OutputsSafe (strobe s) := by
  by_cases h : NextStrobeDark s
  · rw [strobe_of_dark h]
    exact hs.breakOutputs
  · rw [strobe_of_lit h]
    have hsel : OutputsSafe (setSelLayer (targetLayer s) (Machine.breakOutputs s)) := hs.breakOutputs.congr rfl rfl
    exact hsel.fireLayer rfl (targetMask s)

theorem exec_keeps_outputsSafe (i : Instr) (s t : State) (hs : OutputsSafe s) (h : exec i s = .next t) :
    OutputsSafe t := by
  rcases exec_cases h with
    ⟨_, rfl⟩ | ⟨_, rfl⟩ | ⟨_, rfl⟩ | ⟨_, rfl⟩ | ⟨b, _, _, rfl⟩ | ⟨b, _, _, rfl⟩
  · exact hs
  · exact outputsSafe_resetState s.params s.inputs
  · exact hs.audioTick.strobe
  · exact hs.congr (by simp) (by simp [pinsOf])
  · exact hs.congr (by simp) (by simp [pinsOf])
  · exact hs

/-- Settles O47: only a high-rate tick writes outputs, and its writes are safe one after another: the tone, then both
ports off, then the fired subset while no ground line is asserted, then one ground line. -/
theorem outputsStaySafe : Obligations.OutputsStaySafe :=
  step_keeps (fun _ _ hs => hs) exec_keeps_outputsSafe

/-- Settles O48: at reset nothing is written yet. -/
theorem outputsAreSafeAtReset : Obligations.OutputsAreSafeAtReset :=
  outputsSafe_resetState (defaultParams Config.pcm) []

end Sys2Proof.Machine

namespace Sys2Proof.Machine

/-! The matrix in each mode: 10_state.md, R20 items 3 to 5 -/

theorem testBit_shr12 (v : Mask) (i : BitPos) (h : i.val < 11) : testBit (shr12 v) i = testBit v (i + 1) := by
  have hsucc : (i + 1).val = 1 + i.val := by
    rw [Fin.val_add_one_of_lt' (by omega), Nat.add_comm]
  simp only [testBit, shr12, BitVec.getLsbD_ushiftRight, hsucc]

/-- Bit 11 becomes 0 (R6). -/
theorem testBit_shr12_last (v : Mask) : testBit (shr12 v) 11 = false := by
  simp [testBit, shr12]

/-- A shift lights no LED more: its bits 0 to 10 are the mask's bits 1 to 11 (R6). -/
theorem popcount12_shr12_le (v : Mask) : popcount12 (shr12 v) ≤ popcount12 v := by
  have hlow : ∀ i ∈ bitPositions.dropLast, testBit (shr12 v) i = testBit v (i + 1) := fun i hi =>
    testBit_shr12 v i (by revert i; decide)
  have hsplit : bitPositions = bitPositions.dropLast ++ [11] := by decide
  have htail : bitPositions.dropLast.map (· + 1) = bitPositions.tail := by decide
  calc popcount12 (shr12 v)
      = bitPositions.dropLast.countP (testBit (shr12 v)) := by
        rw [popcount12, hsplit, List.countP_append]
        simp [testBit_shr12_last]
    _ = bitPositions.dropLast.countP (testBit v ∘ (· + 1)) :=
        List.countP_congr fun i hi => by rw [hlow i hi]; rfl
    _ = bitPositions.tail.countP (testBit v) := by rw [← List.countP_map, htail]
    _ ≤ popcount12 v := (List.tail_sublist _).countP_le

/-- The chase keeps at most one LED lit (R20 item 3, R64). -/
theorem popcount12_chase_le {p : Params} {v : Mask} (hp : p.chaseSeed = 0x800#12) (hv : popcount12 v ≤ 1) :
    popcount12 (chase p v) ≤ 1 := by
  unfold chase
  split
  · rw [hp]
    decide
  · exact (popcount12_shr12_le v).trans hv

/-- The sparse pulse keeps to its four masks (R20 item 4, R65). -/
theorem sparse_mem {p : Params} {v : Mask} (hseed : p.sparseSeed = 0x924#12) (hend : p.sparseEnd = 0x249#12)
    (hv : v ∈ [0x000#12, 0x924#12, 0x492#12, 0x249#12]) :
    sparse p v ∈ [0x000#12, 0x924#12, 0x492#12, 0x249#12] := by
  unfold sparse
  rw [hseed, hend]
  fin_cases hv <;> decide

/-- The fill keeps to its four matrices (R20 item 5, R66). -/
theorem fill_mem {p : Params} {m : LedMatrix} (hfull : p.full = 0xFFF#12)
    (hm : m ∈ [LedMatrix.zero, ⟨0#12, 0#12, 0xFFF#12⟩, ⟨0#12, 0xFFF#12, 0#12⟩, ⟨0xFFF#12, 0#12, 0#12⟩]) :
    fill p m ∈ [LedMatrix.zero, ⟨0#12, 0#12, 0xFFF#12⟩, ⟨0#12, 0xFFF#12, 0#12⟩, ⟨0xFFF#12, 0#12, 0#12⟩] := by
  unfold fill
  rw [hfull]
  fin_cases hm <;> decide

/-- Items 2 to 5 of R20 on a cleared matrix: they ask only that Idle be a single state. -/
theorem matrixOfMode_of_zero {s : State} (hm : s.matrix = LedMatrix.zero)
    (hidle : s.actValid = false → s.actBtn = .button0 ∧ s.speed = 0) : MatrixOfMode s := by
  unfold MatrixOfMode
  rw [hm]
  exact ⟨fun hv => by simpa using hidle hv, fun _ _ => by decide, fun _ _ => by decide,
    fun _ _ => by decide⟩

/-- Items 2 to 5 of R20 do not look at the speed of an active button. -/
theorem MatrixOfMode.congr {s t : State} (hs : MatrixOfMode s) (hv : t.actValid = s.actValid)
    (hb : t.actBtn = s.actBtn) (hsp : s.actValid = false → t.speed = s.speed) (hm : t.matrix = s.matrix) :
    MatrixOfMode t := by
  obtain ⟨hidle, h0, h1, h2⟩ := hs
  rw [MatrixOfMode, hv, hb, hm]
  refine ⟨fun hn => ?_, h0, h1, h2⟩
  rw [hsp hn]
  exact hidle hn

theorem matrixOfMode_resetState (p : Params) (ins : List Input) : MatrixOfMode (resetState p ins) :=
  matrixOfMode_of_zero rfl fun _ => ⟨rfl, rfl⟩

/-- A generated matrix is again one of its mode (R63 to R66). -/
theorem MatrixOfMode.patternGen {s t : State} (hp : DefaultPatterns s.params) (hs : MatrixOfMode s)
    (hv : t.actValid = s.actValid) (hb : t.actBtn = s.actBtn) (hsp : t.speed = s.speed)
    (hm : t.matrix = patternGen s.params s.actValid s.actBtn s.matrix) : MatrixOfMode t := by
  obtain ⟨hchase, hseed, hend, hfull⟩ := hp
  obtain ⟨hidle, h0, h1, h2⟩ := hs
  rw [MatrixOfMode, hv, hb, hsp, hm]
  refine ⟨fun hn => ?_, fun ha hb0 => ?_, fun ha hb1 => ?_, fun ha hb2 => ?_⟩
  · rw [hn, patternGen_idle]
    exact hidle hn
  · obtain ⟨hm1, hm2, hpop⟩ := h0 ha hb0
    rw [ha, hb0]
    exact ⟨hm1, hm2, popcount12_chase_le hchase hpop⟩
  · obtain ⟨hm0, hm2, hmem⟩ := h1 ha hb1
    rw [ha, hb1]
    exact ⟨hm0, hm2, sparse_mem hseed hend hmem⟩
  · rw [ha, hb2]
    exact fill_mem hfull (h2 ha hb2)

theorem MatrixOfMode.logicalTick {s : State} (hp : DefaultPatterns s.params) (hs : MatrixOfMode s) :
    MatrixOfMode (logicalTick s) := by
  rcases logicalTick_matrix_cases s with hm | hm
  · exact hs.congr (by simp) (by simp) (by simp) hm
  · exact hs.patternGen hp (by simp) (by simp) (by simp) hm

/-- A press clears the matrix, or changes the speed of the active button alone (R54 to R56). -/
theorem MatrixOfMode.press {s : State} (hs : MatrixOfMode s) (b : ButtonId) : MatrixOfMode (press b s) := by
  rcases press_cases b s with ⟨_, _, _, h⟩ | ⟨hv, _, _, h⟩ | ⟨_, h⟩
  · rw [h]
    exact matrixOfMode_of_zero rfl fun _ => ⟨rfl, rfl⟩
  · rw [h]
    exact hs.congr rfl rfl (fun hn => by simp [hv] at hn) rfl
  · rw [h]
    exact matrixOfMode_of_zero rfl fun hn => by simp [switchTo] at hn

/-! The output registers: 10_state.md, R20 item 6 -/

theorem outputsOfState_of_off {s : State} (hled : s.ledOut = 0#12) (hgnd : s.gndOut = 0#3) : OutputsOfState s :=
  ⟨⟨by simp [pinsOf, hled], .inl hgnd⟩, fun h => absurd hgnd h⟩

theorem OutputsOfState.congr {s t : State} (hs : OutputsOfState s) (hled : t.ledOut = s.ledOut)
    (hgnd : t.gndOut = s.gndOut) : OutputsOfState t := by
  simpa [OutputsOfState, Pins.withinBudget, pinsOf, hled, hgnd] using hs

/-- A strobe leaves both ports off, or the fired subset of a lit layer on that layer's ground line (R73 to R77). -/
theorem outputsOfState_strobe (s : State) : OutputsOfState (strobe s) := by
  by_cases h : NextStrobeDark s
  · rw [strobe_of_dark h]
    exact outputsOfState_of_off rfl rfl
  · have hlit : targetMask s ≠ 0#12 := mt (targetMask_eq_zero_iff s).mp h
    rw [strobe_of_lit h, fireLayer_eq]
    have hpop := popcount12_fireSubset_le (targetMask s) (setSelLayer (targetLayer s) (breakOutputs s)).muxCursor
    have hne := fireSubset_ne_zero hlit (setSelLayer (targetLayer s) (breakOutputs s)).muxCursor
    generalize fireSubset (targetMask s) _ = shot at hpop hne ⊢
    exact ⟨⟨hpop, .inr ⟨targetLayer s, rfl⟩⟩, fun _ => hne⟩

/-! The invariants of the reachable states: 10_state.md, R20 -/

/-- No event changes the parameters (R96). -/
theorem exec_params {i : Instr} {s t : State} (h : exec i s = .next t) : t.params = s.params :=
  (onlyOwnersChangeRegisters i s t h).1

theorem exec_keeps_matrixOfMode {i : Instr} {s t : State} (hp : DefaultPatterns s.params) (hs : MatrixOfMode s)
    (h : exec i s = .next t) : MatrixOfMode t := by
  rcases exec_cases h with
    ⟨_, rfl⟩ | ⟨_, rfl⟩ | ⟨_, rfl⟩ | ⟨_, rfl⟩ | ⟨b, _, _, rfl⟩ | ⟨b, _, _, rfl⟩
  · exact hs
  · exact matrixOfMode_resetState s.params s.inputs
  · exact hs.congr (by simp) (by simp) (by simp) (by simp)
  · exact hs.logicalTick hp
  · have hrec : MatrixOfMode (debouncerRecord b s) := hs.congr rfl rfl (fun _ => rfl) rfl
    exact hrec.press b
  · exact hs

theorem exec_keeps_outputsOfState {i : Instr} {s t : State} (hs : OutputsOfState s) (h : exec i s = .next t) :
    OutputsOfState t := by
  rcases exec_cases h with
    ⟨_, rfl⟩ | ⟨_, rfl⟩ | ⟨_, rfl⟩ | ⟨_, rfl⟩ | ⟨b, _, _, rfl⟩ | ⟨b, _, _, rfl⟩
  · exact hs
  · exact outputsOfState_of_off rfl rfl
  · exact outputsOfState_strobe (audioTick s)
  · exact hs.congr (by simp) (by simp)
  · exact hs.congr (by simp) (by simp)
  · exact hs

theorem exec_keeps_reachableInv (i : Instr) (s t : State) (hs : ReachableInv s) (h : exec i s = .next t) :
    ReachableInv t := by
  obtain ⟨hpat, hrange, hmode, hout⟩ := hs
  exact ⟨by rwa [exec_params h], exec_keeps_registersInRange i s t hrange h, exec_keeps_matrixOfMode hpat hmode h,
    exec_keeps_outputsOfState hout h⟩

/-- Settles O51: the ranges, the matrix of the mode and the outputs are each kept by every event. -/
theorem reachableInvariantsAreKept : Obligations.ReachableInvariantsAreKept :=
  step_keeps (fun _ _ hs => hs) exec_keeps_reachableInv

theorem defaultPatterns_defaultParams (pcm : PcmTable) : DefaultPatterns (defaultParams pcm) :=
  ⟨rfl, rfl, rfl, rfl⟩

/-- Settles O52: at reset the patterns are the defaults, the counters 0, the mode Idle and the outputs off. -/
theorem reachableInvariantsHoldAtReset : Obligations.ReachableInvariantsHoldAtReset :=
  ⟨defaultPatterns_defaultParams Config.pcm, registersInRange_resetState _ [], matrixOfMode_resetState _ [],
    outputsOfState_of_off rfl rfl⟩

/-! Bits and ports: 30_encoding.md, R37 to R39 -/

/-- A number below 2 to the width is its own encoding. -/
theorem toNat_ofNat_of_lt {w n : Nat} (h : n < 2 ^ w) : (BitVec.ofNat w n).toNat = n := by
  rw [BitVec.toNat_ofNat, Nat.mod_eq_of_lt h]

/-- The audio cursor's register is wide enough for every index of the table (R7). -/
theorem pcmLen_le_two_pow_width (p : Params) : pcmLen p ≤ 2 ^ audioCursorWidth p := by
  unfold audioCursorWidth
  split
  · assumption
  · have h : pcmLen p - 1 < 2 ^ ((pcmLen p - 1).log2 + 1) := Nat.lt_log2_self
    omega

/-- Where there is an audio cursor in the table, its bits are its index (R38). -/
theorem audioCursorBits_of_lt {s : State} (ha : s.params.hasAudio = true) (hc : s.audioCursor < pcmLen s.params) :
    ∃ v, audioCursorBits s = some v ∧ v.toNat = s.audioCursor :=
  ⟨BitVec.ofNat _ s.audioCursor, by simp [audioCursorBits, ha],
    toNat_ofNat_of_lt (hc.trans_le (pcmLen_le_two_pow_width s.params))⟩

/-- Settles O53: a field whose value is below 2 to its width is its own encoding; the buttons go by R35's table. -/
theorem fieldEncodingsStayLegal : Obligations.FieldEncodingsStayLegal := by
  intro s
  have hspeed : s.speed.val < 3 := s.speed.isLt
  have hsel : s.selLayer.val < 3 := s.selLayer.isLt
  have hcur : s.muxCursor.val < 12 := s.muxCursor.isLt
  refine ⟨fun h => toNat_ofNat_of_lt h, fun h => toNat_ofNat_of_lt h, ?_, ?_, ?_, ?_, ?_, ?_, ?_, ?_,
    toNat_ofNat_of_lt (by omega), hspeed, toNat_ofNat_of_lt (by omega), hsel,
    toNat_ofNat_of_lt (by omega), hcur, audioCursorBits_of_lt, fun h => by simp [audioCursorBits, h]⟩
  case refine_4 | refine_5 =>
    intro h
    simp [actValidBits, h]
  all_goals
    intro h
    simp [dbLastBtnBits, actBtnBits, buttonField, h]

/-- A ground-line word asserts the line of its layer and no other (R39). -/
theorem getLsbD_onehot3 (l k : Layer) : (onehot3 l).getLsbD k.val = decide (k = l) := by
  revert l k
  decide

/-- Settles O54: the ports are the registers, the tone port by HAS_AUDIO, and the ground-line words are one-hot. -/
theorem outputPortsShowTheRegisters : Obligations.OutputPortsShowTheRegisters := by
  refine ⟨fun s => ⟨rfl, rfl, fun ha => ?_, ?_⟩, getLsbD_onehot3⟩
  · simp [outputPorts, ha]
  · cases ha : s.params.hasAudio
    · simp [outputPorts, ha]
    · simp [outputPorts, ha]

end Sys2Proof.Machine

namespace Sys2Proof.Machine

/-! The inputs that wait are invisible to the events: 20_memory.md, R28 (log entries 2 and 10) -/

theorem audioTick_setInputs (ins : List Input) (s : State) :
    audioTick (setInputs ins s) = setInputs ins (audioTick s) := by
  rw [audioTick_eq, audioTick_eq]
  rfl

theorem fireLayer_setInputs (m : Mask) (ins : List Input) (s : State) :
    fireLayer m (setInputs ins s) = setInputs ins (fireLayer m s) := by
  simp only [fireLayer_eq, setInputs_muxCursor]
  generalize fireSubset m s.muxCursor = shot
  rfl

theorem strobe_setInputs (ins : List Input) (s : State) : strobe (setInputs ins s) = setInputs ins (strobe s) := by
  rw [strobe_eq, strobe_eq, apply_ite (setInputs ins), ← fireLayer_setInputs]
  rfl

theorem logicalTick_setInputs (ins : List Input) (s : State) :
    logicalTick (setInputs ins s) = setInputs ins (logicalTick s) := by
  have hframe : frame (countTick (setInputs ins s)) = setInputs ins (frame (countTick s)) := by
    rw [frame_eq, frame_eq]
    rfl
  unfold logicalTick
  rw [apply_ite (setInputs ins), ← hframe]
  rfl

theorem press_setInputs (b : ButtonId) (ins : List Input) (s : State) :
    press b (setInputs ins s) = setInputs ins (press b s) := by
  unfold press
  rw [apply_ite (setInputs ins), apply_ite (setInputs ins)]
  rfl

/-- Every event completes (R46), and to the same registers whatever inputs wait, which it leaves waiting. -/
theorem exec_setInputs (i : Instr) (s : State) :
    ∃ t, ∀ ins : List Input, exec i (setInputs ins s) = .next (setInputs ins t) := by
  cases i with
  | idle => exact ⟨s, fun ins => rfl⟩
  | reset => exact ⟨resetState s.params s.inputs, fun ins => rfl⟩
  | htick =>
    exact ⟨strobe (audioTick s), fun ins => by rw [exec_htick, audioTick_setInputs, strobe_setInputs]⟩
  | ltick => exact ⟨logicalTick s, fun ins => by rw [exec_ltick, logicalTick_setInputs]⟩
  | btn b =>
    by_cases hw : WindowOpen s
    · refine ⟨press b (debouncerRecord b s), fun ins => ?_⟩
      rw [exec_btn_accepted b (setInputs ins s) hw, ← press_setInputs]
      rfl
    · exact ⟨s, fun ins => exec_btn_rejected b (setInputs ins s) hw⟩

/-! Queues of delivered events: 20_memory.md, R28; 30_encoding.md, R37 and R40 -/

/-- The decoder reads back the word of an event (R34, R35). -/
@[simp] theorem decode_encode (i : Instr) : decode (encode i) = .event i := by
  cases i with
  | idle | reset | htick | ltick => rfl
  | btn b => cases b <;> rfl

/-- The inputs `ins`, taken word by word, are the words of the events `es`, after which `rest` waits. -/
inductive Queued (rest : List Input) : List Instr → List Input → Prop where
  | nil : Queued rest [] rest
  | cons {e : Instr} {es : List Instr} {ins later : List Input} (htake : takeWord ins = (encode e, later))
      (hlater : Queued rest es later) : Queued rest (e :: es) ins

/-- The step takes the word of `e` from the inputs and runs `e` with the later inputs waiting (R2). -/
theorem step_of_takeWord {ins later : List Input} {e : Instr} (h : takeWord ins = (encode e, later)) (s : State) :
    step (setInputs ins s) = exec e (setInputs later s) := by
  have hword : nextWord (setInputs ins s) = encode e := by rw [nextWord, setInputs_inputs, h]
  have htake : afterTake (setInputs ins s) = setInputs later s := by
    rw [afterTake, setInputs_inputs, h]
    rfl
  rw [step_of_decode_event (by rw [hword, decode_encode]), htake]

/-- A run goes on from the state that its first step answers. -/
theorem run_succ_of_step_next (M : Host.Core) {s t : M.State} (k : Nat) (h : M.step s = .next t) :
    M.run (k + 1) s = M.run k t := by
  rw [Host.Core.run, h]

/-- As many steps as events are queued run those events, one after another, and leave the rest waiting. -/
theorem run_of_queued {rest ins : List Input} {es : List Instr} (h : Queued rest es ins) (s : State) :
    Host.Core.run Sys2Proof.core es.length (setInputs ins s) = runEvents es (setInputs rest s) := by
  induction h generalizing s with
  | nil => rfl
  | @cons e es ins later htake _ ih =>
    obtain ⟨t, ht⟩ := exec_setInputs e s
    have hstep : step (setInputs ins s) = .next (setInputs later t) := (step_of_takeWord htake s).trans (ht later)
    have hrun : Host.Core.run Sys2Proof.core (es.length + 1) (setInputs ins s) =
        Host.Core.run Sys2Proof.core es.length (setInputs later t) := run_succ_of_step_next _ _ hstep
    exact hrun.trans ((ih t).trans (runEvents_cons es (ht rest)).symm)

/-- The inputs of `s` itself may be what waits after the queue: setting them again changes nothing. -/
theorem run_of_queued_before_inputs {s : State} {ins : List Input} {es : List Instr} (h : Queued s.inputs es ins) :
    Host.Core.run Sys2Proof.core es.length (setInputs ins s) = runEvents es s :=
  run_of_queued h s

/-- Events queued before a queue of events. -/
theorem Queued.append {rest mid ins : List Input} {es fs : List Instr} (h : Queued mid es ins)
    (hmid : Queued rest fs mid) : Queued rest (es ++ fs) ins := by
  induction h with
  | nil => exact hmid
  | cons htake _ ih => exact .cons htake ih

/-- Events delivered as their words are queued (R34). -/
theorem queued_words (es : List Instr) (rest : List Input) :
    Queued rest es (es.map (fun e => .word (encode e)) ++ rest) := by
  induction es with
  | nil => exact .nil
  | cons e es ih => exact .cons (takeWord_word _ _) ih

/-- A sampled strobe vector queues its events in the order of its expansion (R37, log entry 13). -/
theorem queued_strobe (sv : StrobeVector) (rest : List Input) : Queued rest (expand sv) (.strobe sv :: rest) := by
  obtain ⟨e, es, hexp, htake⟩ := takeWord_strobe sv rest
  rw [hexp]
  exact .cons htake (queued_words es rest)

/-- Sampled strobe vectors queue their events vector by vector (R37). -/
theorem queued_strobes (svs : List StrobeVector) (rest : List Input) :
    Queued rest (svs.flatMap expand) (svs.map .strobe ++ rest) := by
  induction svs with
  | nil => exact .nil
  | cons sv svs ih => exact (queued_strobe sv (svs.map .strobe ++ rest)).append ih

/-- Settles O9: the strobe vectors queue their events before the inputs that were waiting, and a queue is run event by
event. -/
theorem strobeVectorsRunTheirEvents : Obligations.StrobeVectorsRunTheirEvents := fun svs s =>
  run_of_queued_before_inputs (queued_strobes svs s.inputs)

/-- Settles O10: the words of a trace queue its events, one word each. -/
theorem traceRunsItsEvents : Obligations.TraceRunsItsEvents := by
  intro items s
  have hwords : (encodeTrace items).map Input.word = (expandTrace items).map fun e => .word (encode e) :=
    List.map_map
  have hlength : (encodeTrace items).length = (expandTrace items).length := List.length_map encode
  rw [hwords, hlength]
  exact run_of_queued_before_inputs (queued_words (expandTrace items) s.inputs)

end Sys2Proof.Machine

namespace Sys2Proof.Machine

/-! Legal and reserved event words: 30_encoding.md, R34 to R36 -/

/-- The nine words that R36 reserves. -/
theorem eventWordOk_eq_false_iff (w : EventWord) :
    eventWordOk w = false ↔ w ∈ [0x2#4, 0x3#4, 0x5#4, 0x6#4, 0x7#4, 0x9#4, 0xA#4, 0xB#4, 0xF#4] := by
  rw [eventWordOk, Bool.not_eq_false', List.contains_iff_mem]

/-- No event is encoded by a reserved word. -/
theorem eventWordOk_encode (i : Instr) : eventWordOk (encode i) = true := by
  cases i with
  | idle => exact Laws.EncodesLegally.idle
  | reset => exact Laws.EncodesLegally.reset
  | htick => exact Laws.EncodesLegally.htick
  | ltick => exact Laws.EncodesLegally.ltick
  | btn b => exact Laws.EncodesLegally.btn b

/-- Of the sixteen words, those not reserved are the words of the seven events (R34). -/
theorem exists_encode_of_eventWordOk {w : EventWord} (h : eventWordOk w = true) : ∃ i, encode i = w := by
  have hseven : ∀ w : EventWord, eventWordOk w = true →
      w ∈ [.idle, .reset, .htick, .ltick, .btn .button0, .btn .button1, .btn .button2].map encode := by decide
  obtain ⟨i, -, hi⟩ := List.mem_map.mp (hseven w h)
  exact ⟨i, hi⟩

/-- A reserved word has no neighbouring meaning: the decoder answers the word itself (R36). -/
theorem decode_of_reserved {w : EventWord} (h : eventWordOk w = false) : decode w = .invalid w :=
  (by decide : ∀ w : EventWord, eventWordOk w = false → decode w = .invalid w) w h

theorem decode_eq_event_iff (i : Instr) (w : EventWord) : decode w = .event i ↔ encode i = w := by
  constructor
  · intro hdec
    cases hok : eventWordOk w with
    | false => cases hdec.symm.trans (decode_of_reserved hok)
    | true =>
      obtain ⟨j, rfl⟩ := exists_encode_of_eventWordOk hok
      cases hdec.symm.trans (decode_encode j)
      rfl
  · rintro rfl
    exact decode_encode i

theorem decode_eq_invalid_iff (w : EventWord) : decode w = .invalid w ↔ eventWordOk w = false := by
  refine ⟨fun hdec => ?_, decode_of_reserved⟩
  rw [← Bool.not_eq_true]
  intro hok
  obtain ⟨i, rfl⟩ := exists_encode_of_eventWordOk hok
  cases hdec.symm.trans (decode_encode i)

/-- The step refuses a reserved word by name (R36, log entry 12). -/
theorem step_of_reserved {s : State} (h : eventWordOk (nextWord s) = false) :
    step s = .refused (.reservedEventWord (nextWord s)) := by
  rw [step, decode_of_reserved h]

/-! Sequences of event words: 30_encoding.md, R36 and R40 -/

@[simp] theorem decodeWords_nil : decodeWords [] = some [] := rfl

@[simp] theorem decodeWords_encode_cons (i : Instr) (ws : List EventWord) :
    decodeWords (encode i :: ws) = (decodeWords ws).map (i :: ·) := by
  rw [decodeWords, decode_encode]
  cases decodeWords ws <;> rfl

theorem decodeWords_cons_of_reserved {w : EventWord} (h : eventWordOk w = false) (ws : List EventWord) :
    decodeWords (w :: ws) = none := by
  rw [decodeWords, decode_of_reserved h]

theorem decodeWords_map_encode (is : List Instr) : decodeWords (is.map encode) = some is := by
  induction is with
  | nil => rfl
  | cons i is ih => rw [List.map_cons, decodeWords_encode_cons, ih, Option.map_some]

/-- A sequence decodes to no other events than those it encodes. -/
theorem map_encode_of_decodeWords {ws : List EventWord} {is : List Instr} (h : decodeWords ws = some is) :
    is.map encode = ws := by
  induction ws generalizing is with
  | nil => cases h; rfl
  | cons w ws ih =>
    cases hok : eventWordOk w with
    | false => cases h.symm.trans (decodeWords_cons_of_reserved hok ws)
    | true =>
      obtain ⟨i, rfl⟩ := exists_encode_of_eventWordOk hok
      rw [decodeWords_encode_cons, Option.map_eq_some_iff] at h
      obtain ⟨js, hjs, rfl⟩ := h
      rw [List.map_cons, ih hjs]

/-- One reserved word anywhere leaves the whole sequence without a meaning (R36). -/
theorem decodeWords_eq_none_iff (ws : List EventWord) :
    decodeWords ws = none ↔ ∃ w ∈ ws, eventWordOk w = false := by
  induction ws with
  | nil => simp
  | cons w ws ih =>
    cases hok : eventWordOk w with
    | false => simp [decodeWords_cons_of_reserved hok ws, hok]
    | true =>
      obtain ⟨i, rfl⟩ := exists_encode_of_eventWordOk hok
      simp [hok, ih]

/-- Settles O6: by induction on the words, each of which is reserved or the word of an event. -/
theorem traceWordsDecodeToTheirEvents : Obligations.TraceWordsDecodeToTheirEvents :=
  ⟨fun _ is => ⟨map_encode_of_decodeWords, fun h => h ▸ decodeWords_map_encode is⟩, decodeWords_eq_none_iff⟩

/-- Settles O3: the nine words are those that the decoder answers as invalid, and what a strobe vector leaves to the
machine is the words of its events. -/
theorem reservedWordsAreRefused : Obligations.ReservedWordsAreRefused := by
  refine ⟨fun w => ⟨?_, (decode_cases w).symm⟩, fun s w rest hw hin => ?_, fun s sv rest hin => ?_⟩
  · rw [← eventWordOk_eq_false_iff, decode_eq_invalid_iff]
  · have hnext : nextWord s = w := nextWord_of_inputs_word hin
    rw [step_of_reserved (by rw [hnext, eventWordOk_eq_false_iff]; exact hw), hnext]
  · obtain ⟨e, es, -, htake⟩ := takeWord_strobe sv rest
    refine ⟨e, es.map fun e => .word (encode e), ?_, ?_, fun x hx => ?_⟩
    · rw [nextWord, hin, htake, decode_encode]
    · rw [afterTake, setInputs_inputs, hin, htake]
    · obtain ⟨e', -, rfl⟩ := List.mem_map.mp hx
      exact ⟨encode e', rfl, eventWordOk_encode e'⟩

/-- Settles O4: each of the words is what the encoder computes for its event. -/
theorem legalWordsDecodeAsTheTable : Obligations.LegalWordsDecodeAsTheTable :=
  ⟨decode_encode .idle, decode_encode .reset, decode_encode .htick, decode_encode .ltick,
    decode_encode (.btn .button0), decode_encode (.btn .button1), decode_encode (.btn .button2)⟩

/-- Settles O5: a word that decodes to an event is not reserved, so it is the word of one event, which is the event
decoded. -/
theorem decodeAndEncodeAgree : Obligations.DecodeAndEncodeAgree := decode_eq_event_iff

/-! The expansion of trace items: 30_encoding.md, R40 -/

@[simp] theorem expandItem_event (i : Instr) : expandItem (.event i) = [i] := by
  rw [expandItem]

@[simp] theorem expandItem_rep (n : Nat) (item : TraceItem) :
    expandItem (.rep n item) = (List.replicate n (expandItem item)).flatten := by
  rw [expandItem]

theorem expandItem_rep_succ (n : Nat) (item : TraceItem) :
    expandItem (.rep (n + 1) item) = expandItem item ++ expandItem (.rep n item) := by
  rw [expandItem_rep, expandItem_rep, List.replicate_succ, List.flatten_cons]

/-- Repeating one event: what WAIT and REFRESH abbreviate. -/
theorem expandItem_rep_event (n : Nat) (i : Instr) : expandItem (.rep n (.event i)) = List.replicate n i := by
  rw [expandItem_rep, expandItem_event, List.flatten_replicate_singleton]

theorem expandItem_wait (n : Nat) : expandItem (.wait n) = expandItem (.rep n (.event .ltick)) := by
  rw [expandItem_rep_event, expandItem]

theorem expandItem_refresh (n : Nat) : expandItem (.refresh n) = expandItem (.rep n (.event .htick)) := by
  rw [expandItem_rep_event, expandItem]

theorem expandItem_strobe (sv : StrobeVector) : expandItem (.strobe sv) = expand sv := by
  rw [expandItem]

theorem encodeTrace_cons (item : TraceItem) (items : List TraceItem) :
    encodeTrace (item :: items) = (expandItem item).map encode ++ encodeTrace items := by
  rw [encodeTrace, expandTrace, List.flatMap_cons, List.map_append]
  rfl

/-- Settles O7: row by row. -/
theorem pseudoEventsExpand : Obligations.PseudoEventsExpand :=
  ⟨expandItem_event, expandItem_rep 0, expandItem_rep_succ, expandItem_wait, expandItem_refresh, expandItem_strobe,
    encodeTrace_cons⟩

/-! The expansion of a strobe vector: 30_encoding.md, R37; 60_exceptions.md, R89 -/

/-- Where each strobe stands in the vector (R37). -/
theorem strobeVector_bits (rst : Bool) (btn : BitVec 3) (logTick hrTick : Bool) :
    (strobeVector rst btn logTick hrTick).getLsbD 0 = hrTick ∧
    (strobeVector rst btn logTick hrTick).getLsbD 1 = logTick ∧
    (strobeVector rst btn logTick hrTick).getLsbD 2 = btn.getLsbD 0 ∧
    (strobeVector rst btn logTick hrTick).getLsbD 3 = btn.getLsbD 1 ∧
    (strobeVector rst btn logTick hrTick).getLsbD 4 = btn.getLsbD 2 ∧
    (strobeVector rst btn logTick hrTick).getLsbD 5 = rst := by
  unfold strobeVector
  simp only [BitVec.getLsbD_append]
  simp

theorem strobeVector_rst (rst : Bool) (btn : BitVec 3) (logTick hrTick : Bool) :
    (strobeVector rst btn logTick hrTick).getLsbD 5 = rst := by
  simp only [strobeVector_bits]

theorem strobed_eq_nil_iff {sv : StrobeVector} {k : Nat} {e : Instr} : strobed sv k e = [] ↔ sv.getLsbD k = false := by
  unfold strobed
  split <;> simp_all

@[simp] theorem mem_strobed {sv : StrobeVector} {k : Nat} {e i : Instr} :
    i ∈ strobed sv k e ↔ sv.getLsbD k = true ∧ i = e := by
  unfold strobed
  split <;> simp_all

theorem strobed_sublist (sv : StrobeVector) (k : Nat) (e : Instr) : (strobed sv k e).Sublist [e] := by
  unfold strobed
  split
  · exact .refl [e]
  · exact List.nil_sublist [e]

/-- The events of the strobe bits other than `rst`, in the fixed order (R37): none where no such bit is set. -/
def strobeEvents (sv : StrobeVector) : List Instr :=
  strobed sv 0 .htick ++ strobed sv 1 .ltick ++ strobed sv 2 (.btn .button0)
    ++ strobed sv 3 (.btn .button1) ++ strobed sv 4 (.btn .button2)

theorem expand_of_rst {sv : StrobeVector} (h : sv.getLsbD 5 = true) : expand sv = [.reset] :=
  if_pos h

theorem expand_of_not_rst {sv : StrobeVector} (h : sv.getLsbD 5 = false) :
    expand sv = if strobeEvents sv = [] then [.idle] else strobeEvents sv :=
  if_neg (by rw [h]; decide)

theorem strobeEvents_sublist (sv : StrobeVector) :
    (strobeEvents sv).Sublist [.htick, .ltick, .btn .button0, .btn .button1, .btn .button2] :=
  ((((strobed_sublist sv 0 .htick).append (strobed_sublist sv 1 .ltick)).append
    (strobed_sublist sv 2 (.btn .button0))).append (strobed_sublist sv 3 (.btn .button1))).append
    (strobed_sublist sv 4 (.btn .button2))

/-- Which event each strobe stands for (R37). -/
theorem mem_strobeEvents (rst : Bool) (btn : BitVec 3) (logTick hrTick : Bool) (i : Instr) :
    i ∈ strobeEvents (strobeVector rst btn logTick hrTick) ↔
      (hrTick = true ∧ i = .htick) ∨ (logTick = true ∧ i = .ltick) ∨
      (btn.getLsbD 0 = true ∧ i = .btn .button0) ∨ (btn.getLsbD 1 = true ∧ i = .btn .button1) ∨
      (btn.getLsbD 2 = true ∧ i = .btn .button2) := by
  simp only [strobeEvents, List.mem_append, mem_strobed, or_assoc, strobeVector_bits]

/-- The three button strobes are all off exactly where their bits are. -/
theorem buttons_eq_zero_iff (btn : BitVec 3) :
    btn = 0#3 ↔ btn.getLsbD 0 = false ∧ btn.getLsbD 1 = false ∧ btn.getLsbD 2 = false := by
  revert btn
  decide

theorem strobeEvents_eq_nil_iff (rst : Bool) (btn : BitVec 3) (logTick hrTick : Bool) :
    strobeEvents (strobeVector rst btn logTick hrTick) = [] ↔ btn = 0#3 ∧ logTick = false ∧ hrTick = false := by
  simp only [strobeEvents, List.append_eq_nil_iff, strobed_eq_nil_iff, strobeVector_bits, buttons_eq_zero_iff]
  tauto

/-- Settles O8: where `rst` is clear and a strobe is set, the vector expands to `strobeEvents`, an event a bit. -/
theorem strobesExpandInFixedOrder : Obligations.StrobesExpandInFixedOrder := by
  intro rst btn logTick hrTick
  have hbit := strobeVector_rst rst btn logTick hrTick
  have hnil := strobeEvents_eq_nil_iff rst btn logTick hrTick
  refine ⟨fun hrst => expand_of_rst (hbit.trans hrst), fun hrst hbtn hlog hhr => ?_, fun hrst hset => ?_⟩
  · rw [expand_of_not_rst (hbit.trans hrst), if_pos (hnil.mpr ⟨hbtn, hlog, hhr⟩)]
  · have hsome : strobeEvents (strobeVector rst btn logTick hrTick) ≠ [] := by
      rw [Ne, hnil]
      rintro ⟨rfl, rfl, rfl⟩
      simp at hset
    rw [expand_of_not_rst (hbit.trans hrst), if_neg hsome]
    exact ⟨strobeEvents_sublist _, by simp [mem_strobeEvents]⟩

end Sys2Proof.Machine

namespace Sys2Proof.Machine

/-! Every event completes: 40_events.md, R41, R45 and R46 -/

/-- Settles O13: the meaning of IDLE is the state it is given. -/
theorem idleChangesNothing : Obligations.IdleChangesNothing := exec_idle

/-- Every event answers a next state in every state (R46). -/
theorem exec_completes (i : Instr) (s : State) : ∃ t, exec i s = .next t := by
  obtain ⟨t, ht⟩ := exec_setInputs i s
  exact ⟨setInputs s.inputs t, ht s.inputs⟩

/-- Where no input waits the word is IDLE's (R41, log entry 2). -/
theorem nextWord_of_inputs_nil {s : State} (h : s.inputs = []) : nextWord s = encode .idle := by
  rw [nextWord, h, takeWord_nil]

/-- Where no input waits there is none to take. -/
theorem afterTake_of_inputs_nil {s : State} (h : s.inputs = []) : afterTake s = s := by
  rw [afterTake, h, takeWord_nil, ← h]
  rfl

/-- Settles O2: the word is IDLE's, and nothing is taken from the inputs. -/
theorem stepWithoutInputChangesNothing : Obligations.StepWithoutInputChangesNothing := by
  intro s h
  have hdec : decode (nextWord s) = .event .idle := by rw [nextWord_of_inputs_nil h, decode_encode]
  calc step s = exec .idle (afterTake s) := step_of_decode_event hdec
    _ = .next s := by rw [afterTake_of_inputs_nil h, exec_idle]

/-- Settles O11: a step either runs an event, which completes, or refuses the reserved word that it took. -/
theorem everyEventCompletes : Obligations.EveryEventCompletes := by
  refine ⟨exec_completes, fun s r h => ?_, fun s r h => ?_⟩
  · cases r
  · rcases step_cases s with ⟨i, _, hs⟩ | ⟨hdec, hs⟩
    · obtain ⟨t, ht⟩ := exec_completes i (afterTake s)
      cases h.symm.trans (hs.trans ht)
    · cases h.symm.trans hs
      exact ⟨(decode_eq_invalid_iff _).mp hdec, rfl⟩

/-- RESET keeps only the parameters and the inputs, so the state after reset is its own next state. -/
theorem exec_reset_reset : exec .reset State.reset = .next State.reset :=
  exec_reset State.reset

/-- Settles O14: the next state is `resetState`, which clears register by register. -/
theorem resetClearsEveryRegister : Obligations.ResetClearsEveryRegister :=
  ⟨fun s => ⟨resetState s.params s.inputs, exec_reset s, by simp [LedMatrix.zero]⟩, exec_reset_reset⟩

/-! What LTICK and BTN read, none of which HTICK writes: 40_events.md, R42 to R44; 60_exceptions.md, R92 -/

/-- The two states agree on the parameters and on the registers of the counter, the debouncer, the mode and the
matrix. The inputs, the selected layer, the scan's cursor, the audio registers and the outputs may differ. -/
structure SameMode (s t : State) : Prop where
  params : s.params = t.params
  tick : s.tick = t.tick
  dbLastTick : s.dbLastTick = t.dbLastTick
  dbLastBtn : s.dbLastBtn = t.dbLastBtn
  actValid : s.actValid = t.actValid
  actBtn : s.actBtn = t.actBtn
  speed : s.speed = t.speed
  matrix : s.matrix = t.matrix

theorem SameMode.refl (s : State) : SameMode s s :=
  ⟨rfl, rfl, rfl, rfl, rfl, rfl, rfl, rfl⟩

theorem SameMode.symm {s t : State} (h : SameMode s t) : SameMode t s :=
  ⟨h.params.symm, h.tick.symm, h.dbLastTick.symm, h.dbLastBtn.symm, h.actValid.symm, h.actBtn.symm, h.speed.symm,
    h.matrix.symm⟩

theorem SameMode.trans {s t u : State} (h : SameMode s t) (k : SameMode t u) : SameMode s u :=
  ⟨h.params.trans k.params, h.tick.trans k.tick, h.dbLastTick.trans k.dbLastTick, h.dbLastBtn.trans k.dbLastBtn,
    h.actValid.trans k.actValid, h.actBtn.trans k.actBtn, h.speed.trans k.speed, h.matrix.trans k.matrix⟩

/-- A high-rate tick writes only registers on which agreeing states may differ (R44, R80). -/
theorem sameMode_htick (s : State) : SameMode (strobe (audioTick s)) s := by
  constructor <;> simp

theorem sameMode_setTick {s t : State} (h : SameMode s t) (n : Nat) : SameMode (setTick n s) (setTick n t) :=
  { h with tick := rfl }

theorem sameMode_setDebounce {s t : State} (h : SameMode s t) (b : ButtonId) (n : Nat) :
    SameMode (setDebounce b n s) (setDebounce b n t) :=
  { h with dbLastBtn := rfl, dbLastTick := rfl }

theorem sameMode_setMode {s t : State} (h : SameMode s t) (v : Bool) (b : ButtonId) (sp : Speed) :
    SameMode (setMode v b sp s) (setMode v b sp t) :=
  { h with actValid := rfl, actBtn := rfl, speed := rfl }

theorem sameMode_setMatrix {s t : State} (h : SameMode s t) (m : LedMatrix) :
    SameMode (setMatrix m s) (setMatrix m t) :=
  { h with matrix := rfl }

/-- The published layers may differ: under ROUND_ROBIN a frame keeps what the strobes selected (R60). -/
theorem sameMode_setSelLayer {s t : State} (h : SameMode s t) (k l : Layer) :
    SameMode (setSelLayer k s) (setSelLayer l t) :=
  { h with }

theorem sameMode_resetState {s t : State} (h : SameMode s t) :
    SameMode (resetState s.params s.inputs) (resetState t.params t.inputs) :=
  { SameMode.refl (resetState s.params s.inputs) with params := h.params }

/-- The debounce window reads the counter, its recorded value and TICK_W (R47). -/
theorem windowOpen_iff_of_sameMode {s t : State} (h : SameMode s t) : WindowOpen s ↔ WindowOpen t := by
  rw [WindowOpen, WindowOpen, h.params, h.tick, h.dbLastTick]

theorem sameMode_debouncerRecord {s t : State} (h : SameMode s t) (b : ButtonId) :
    SameMode (debouncerRecord b s) (debouncerRecord b t) := by
  rw [debouncerRecord, debouncerRecord, h.tick]
  exact sameMode_setDebounce h b t.tick

/-- Agreeing states take the same of the three transitions of a press, and agree after it (R54 to R56). -/
theorem sameMode_press {s t : State} (h : SameMode s t) (b : ButtonId) : SameMode (press b s) (press b t) := by
  have hactive : pressesActive b s = pressesActive b t := by
    rw [pressesActive, pressesActive, h.actValid, h.actBtn]
  rw [press, press, hactive, h.speed]
  split
  · split
    · exact sameMode_setMode (sameMode_setMatrix h LedMatrix.zero) false .button0 0
    · rw [speedUp, speedUp, h.actValid, h.actBtn, h.speed]
      exact sameMode_setMode h t.actValid t.actBtn (t.speed + 1)
  · exact sameMode_setMode (sameMode_setMatrix h LedMatrix.zero) true b 0

theorem sameMode_countTick {s t : State} (h : SameMode s t) : SameMode (countTick s) (countTick t) := by
  rw [countTick, countTick, h.params, h.tick]
  exact sameMode_setTick h (tickSucc t.params t.tick)

/-- The PatternGenerator reads the mode and the matrix alone (R62). -/
theorem sameMode_frame {s t : State} (h : SameMode s t) : SameMode (frame s) (frame t) := by
  rw [frame_eq, frame_eq, h.params, h.actValid, h.actBtn, h.matrix]
  exact sameMode_setSelLayer (sameMode_setMatrix h _) _ _

/-- Agreeing states reach a frame on the same logical tick, and agree after it (R57 to R61). -/
theorem sameMode_logicalTick {s t : State} (h : SameMode s t) : SameMode (logicalTick s) (logicalTick t) := by
  have hcount := sameMode_countTick h
  have heligible : frameEligible (countTick s) = frameEligible (countTick t) := by
    rw [frameEligible, frameEligible, hcount.tick, hcount.speed]
  rw [logicalTick, logicalTick, heligible]
  split
  · exact sameMode_frame hcount
  · exact hcount

/-- One event keeps two states in agreement. -/
theorem exec_sameMode {s t : State} (h : SameMode s t) (i : Instr) :
    ∃ s' t', exec i s = .next s' ∧ exec i t = .next t' ∧ SameMode s' t' := by
  cases i with
  | idle => exact ⟨s, t, exec_idle s, exec_idle t, h⟩
  | reset => exact ⟨_, _, exec_reset s, exec_reset t, sameMode_resetState h⟩
  | htick => exact ⟨_, _, exec_htick s, exec_htick t, (sameMode_htick s).trans (h.trans (sameMode_htick t).symm)⟩
  | ltick => exact ⟨_, _, exec_ltick s, exec_ltick t, sameMode_logicalTick h⟩
  | btn b =>
    have hwindow := windowOpen_iff_of_sameMode h
    by_cases hw : WindowOpen s
    · exact ⟨_, _, exec_btn_accepted b s hw, exec_btn_accepted b t (hwindow.mp hw),
        sameMode_press (sameMode_debouncerRecord h b) b⟩
    · exact ⟨s, t, exec_btn_rejected b s hw, exec_btn_rejected b t (mt hwindow.mpr hw), h⟩

/-- Agreeing states still agree when the one runs the events and the other runs them without the HTICKs. -/
theorem runEvents_filter_htick_sameMode (es : List Instr) {s t : State} (h : SameMode s t) :
    ∃ s' t', runEvents es s = .next s' ∧ runEvents (es.filter (· ≠ .htick)) t = .next t' ∧ SameMode s' t' := by
  induction es generalizing s t with
  | nil => exact ⟨s, t, rfl, rfl, h⟩
  | cons e es ih =>
    by_cases he : e = .htick
    · subst he
      obtain ⟨s', t', hs, ht, hsame⟩ := ih ((sameMode_htick s).trans h)
      refine ⟨s', t', (runEvents_cons es (exec_htick s)).trans hs, ?_, hsame⟩
      rwa [List.filter_cons_of_neg (by simp)]
    · obtain ⟨s₁, t₁, hs₁, ht₁, h₁⟩ := exec_sameMode h e
      obtain ⟨s', t', hs, ht, hsame⟩ := ih h₁
      refine ⟨s', t', (runEvents_cons es hs₁).trans hs, ?_, hsame⟩
      rw [List.filter_cons_of_pos (by simpa using he)]
      exact (runEvents_cons _ ht₁).trans ht

/-- Settles O44: a state agrees with itself, and the two runs keep the agreement. -/
theorem modeIsIndependentOfHighRateTicks : Obligations.ModeIsIndependentOfHighRateTicks := by
  intro es s
  obtain ⟨t, u, ht, hu, h⟩ := runEvents_filter_htick_sameMode es (SameMode.refl s)
  exact ⟨t, u, ht, hu, h.tick, h.dbLastTick, h.dbLastBtn, h.actValid, h.actBtn, h.speed, h.matrix⟩

end Sys2Proof.Machine

namespace Sys2Proof.Machine

/-! The elapsed ticks of the debounce window: 41_debouncer.md, R47 and R51 -/

/-- The logical ticks since the last accepted press, as the Debouncer counts them: modulo 2^TICK_W (R47). -/
def elapsed (s : State) : Nat :=
  elapsedTicks s.params s.tick s.dbLastTick

theorem windowOpen_iff_elapsed (s : State) : WindowOpen s ↔ 5 ≤ elapsed s := by
  rw [← debouncerAccepts_iff, debouncerAccepts, decide_eq_true_eq]
  exact Iff.rfl

theorem elapsed_of_just_pressed {s : State} (h : s.dbLastTick = s.tick) : elapsed s = 0 := by
  rw [elapsed, h, elapsedTicks_self]

/-- `elapsedTicks` as an integer: the difference modulo 2^TICK_W (D9). -/
theorem elapsedTicks_cast (p : Params) (now last : Nat) :
    (elapsedTicks p now last : Int) = ((now : Int) - last) % tickModulus p :=
  Int.toNat_of_nonneg (Int.emod_nonneg _ (by have := tickModulus_pos p; omega))

/-- One more tick on the counter is one more elapsed tick, across the counter's wrap too (R51). -/
theorem elapsedTicks_tickSucc (p : Params) (now last : Nat) :
    elapsedTicks p (tickSucc p now) last = (elapsedTicks p now last + 1) % tickModulus p := by
  rw [← Int.natCast_inj, elapsedTicks_cast, tickSucc]
  push_cast
  rw [elapsedTicks_cast, Int.emod_sub_emod, Int.emod_add_emod]
  congr 1
  ring

theorem elapsed_lt (s : State) : elapsed s < tickModulus s.params := by
  rw [← Int.ofNat_lt, elapsed, elapsedTicks_cast]
  exact Int.emod_lt_of_pos _ (by have := tickModulus_pos s.params; omega)

@[simp] theorem elapsed_logicalTick (s : State) :
    elapsed (logicalTick s) = (elapsed s + 1) % tickModulus s.params := by
  simp [elapsed, elapsedTicks_tickSucc]

@[simp] theorem elapsed_htick (s : State) : elapsed (strobe (audioTick s)) = elapsed s := by
  simp [elapsed]

@[simp] theorem elapsed_resetState (p : Params) (ins : List Input) : elapsed (resetState p ins) = 0 :=
  elapsed_of_just_pressed rfl

/-- An accepted press restarts the window (R48). -/
@[simp] theorem elapsed_press (b : ButtonId) (s : State) : elapsed (press b (debouncerRecord b s)) = 0 :=
  elapsed_of_just_pressed (by simp)

/-- No event brings the window nearer to open but LTICK, and that by one tick. -/
theorem exec_elapsed_le {e : Instr} {s t : State} (h : exec e s = .next t) :
    elapsed t ≤ elapsed s + [e].count .ltick := by
  rcases exec_cases h with
    ⟨_, rfl⟩ | ⟨_, rfl⟩ | ⟨_, rfl⟩ | ⟨rfl, rfl⟩ | ⟨b, _, _, rfl⟩ | ⟨b, _, _, rfl⟩
  · exact Nat.le_add_right _ _
  · simp
  · simp
  · simpa using Nat.mod_le (elapsed s + 1) _
  · simp
  · exact Nat.le_add_right _ _

/-- The ticks of a run, first event and later ones apart, in the form of `exec_elapsed_le`. -/
theorem count_ltick_cons (e : Instr) (es : List Instr) :
    (e :: es).count .ltick = [e].count .ltick + es.count .ltick :=
  List.count_append (l₁ := [e])

/-! Rejected edges: 41_debouncer.md, R49 and R50 -/

/-- The events without the edges and the resets. -/
def withoutEdges (es : List Instr) : List Instr :=
  es.filter fun e => e = .ltick ∨ e = .htick ∨ e = .idle

theorem mem_withoutEdges {es : List Instr} {e : Instr} (h : e ∈ withoutEdges es) :
    e = .ltick ∨ e = .htick ∨ e = .idle := by
  simpa using (List.mem_filter.mp h).2

theorem count_withoutEdges (es : List Instr) : (withoutEdges es).count .ltick = es.count .ltick :=
  List.count_filter (by simp)

/-- While the window stays shut no edge has an effect, so the run is the run without the edges (R49, R50). -/
theorem runEvents_withoutEdges {es : List Instr} {s : State} (hreset : Instr.reset ∉ es)
    (hshut : elapsed s + es.count .ltick < 5) : runEvents es s = runEvents (withoutEdges es) s := by
  induction es generalizing s with
  | nil => rfl
  | cons e es ih =>
    obtain ⟨hne, hreset⟩ := not_or.mp (mt List.mem_cons.mpr hreset)
    rw [count_ltick_cons] at hshut
    obtain ⟨t, ht⟩ := exec_completes e s
    have hle := exec_elapsed_le ht
    have hrun : runEvents (e :: es) s = runEvents (withoutEdges es) t :=
      (runEvents_cons es ht).trans (ih hreset (by omega))
    cases e with
    | reset => exact absurd rfl hne
    | btn b =>
      have hw : ¬ WindowOpen s := by rw [windowOpen_iff_elapsed]; omega
      cases ht.symm.trans (exec_btn_rejected b s hw)
      exact hrun
    | idle | htick | ltick => exact hrun.trans (runEvents_cons (withoutEdges es) ht).symm

/-! Events that are neither an edge nor a reset: 41_debouncer.md, R47 to R51 -/

/-- From `s` to `t` no press was recorded and the mode was kept. -/
structure KeepsPress (s t : State) : Prop where
  params : t.params = s.params
  dbLastTick : t.dbLastTick = s.dbLastTick
  dbLastBtn : t.dbLastBtn = s.dbLastBtn
  actValid : t.actValid = s.actValid
  actBtn : t.actBtn = s.actBtn
  speed : t.speed = s.speed

theorem KeepsPress.refl (s : State) : KeepsPress s s :=
  ⟨rfl, rfl, rfl, rfl, rfl, rfl⟩

theorem KeepsPress.trans {s t u : State} (h : KeepsPress s t) (k : KeepsPress t u) : KeepsPress s u :=
  ⟨k.params.trans h.params, k.dbLastTick.trans h.dbLastTick, k.dbLastBtn.trans h.dbLastBtn,
    k.actValid.trans h.actValid, k.actBtn.trans h.actBtn, k.speed.trans h.speed⟩

/-- An event that is neither an edge nor a reset keeps the press, and the window counts its tick. -/
theorem exec_tick_elapsed {e : Instr} (he : e = .ltick ∨ e = .htick ∨ e = .idle) (s : State) :
    ∃ t, exec e s = .next t ∧ KeepsPress s t ∧
      elapsed t = (elapsed s + [e].count .ltick) % tickModulus s.params := by
  have hlt := Nat.mod_eq_of_lt (elapsed_lt s)
  rcases he with rfl | rfl | rfl
  · exact ⟨_, exec_ltick s, by constructor <;> simp, by simp⟩
  · exact ⟨_, exec_htick s, by constructor <;> simp, by simp [hlt]⟩
  · exact ⟨s, exec_idle s, .refl s, by simp [hlt]⟩

/-- Events that are neither edges nor resets keep the press, and the window counts their ticks modulo 2^TICK_W (R47,
R51). -/
theorem runEvents_ticks_elapsed {es : List Instr} (hes : ∀ e ∈ es, e = .ltick ∨ e = .htick ∨ e = .idle)
    (s : State) :
    ∃ t, runEvents es s = .next t ∧ KeepsPress s t ∧
      elapsed t = (elapsed s + es.count .ltick) % tickModulus s.params := by
  induction es generalizing s with
  | nil => exact ⟨s, rfl, .refl s, (Nat.mod_eq_of_lt (elapsed_lt s)).symm⟩
  | cons e es ih =>
    obtain ⟨he, hes⟩ := List.forall_mem_cons.mp hes
    obtain ⟨u, hu, hsu, helu⟩ := exec_tick_elapsed he s
    obtain ⟨t, ht, hut, helt⟩ := ih hes u
    refine ⟨t, (runEvents_cons es hu).trans ht, hsu.trans hut, ?_⟩
    rw [helt, helu, hsu.params, Nat.mod_add_mod, count_ltick_cons e es, Nat.add_assoc]

/-- The same for any events without a reset, edges among them, while the window stays shut. -/
theorem runEvents_shut_elapsed {es : List Instr} {s : State} (hreset : Instr.reset ∉ es)
    (hshut : elapsed s + es.count .ltick < 5) :
    ∃ t, runEvents es s = .next t ∧ runEvents (withoutEdges es) s = .next t ∧ KeepsPress s t ∧
      elapsed t = elapsed s + es.count .ltick := by
  obtain ⟨t, ht, hkeep, hel⟩ := runEvents_ticks_elapsed (fun _ => mem_withoutEdges (es := es)) s
  rw [count_withoutEdges, Nat.mod_eq_of_lt (by have := sixteen_le_tickModulus s.params; omega)] at hel
  exact ⟨t, (runEvents_withoutEdges hreset hshut).trans ht, ht, hkeep, hel⟩

/-- Settles O21: with fewer than five ticks the window stays shut, for every button alike. -/
theorem windowIsSharedByAllButtons : Obligations.WindowIsSharedByAllButtons := by
  intro es s hlast hreset hcount
  have hshut : elapsed s + es.count .ltick < 5 := by rwa [elapsed_of_just_pressed hlast, Nat.zero_add]
  obtain ⟨t, ht, htick, hkeep, _⟩ := runEvents_shut_elapsed hreset hshut
  exact ⟨t, ht, htick, hkeep.dbLastTick, hkeep.dbLastBtn, hkeep.actValid, hkeep.actBtn, hkeep.speed⟩

/-- Settles O22: four ticks of chatter elapse like four quiet ticks, the fifth opens the window, and it is open until the
count of the elapsed ticks wraps. -/
theorem rejectedEdgesDoNotRestartTheWindow : Obligations.RejectedEdgesDoNotRestartTheWindow := by
  refine ⟨exec_btn_rejected, fun es₁ es₂ s hlast hreset hfour hquiet hperiod => ?_⟩
  have hstart : elapsed s = 0 := elapsed_of_just_pressed hlast
  obtain ⟨u, hu, _, hsu, helu⟩ := runEvents_shut_elapsed (s := s) hreset (by omega)
  have hquiet' : ∀ e ∈ Instr.ltick :: es₂, e = .ltick ∨ e = .htick ∨ e = .idle :=
    List.forall_mem_cons.mpr ⟨.inl rfl, hquiet⟩
  obtain ⟨t, ht, hut, helt⟩ := runEvents_ticks_elapsed hquiet' u
  have hopen : elapsed t = 5 + es₂.count .ltick := by
    rw [helt, hsu.params, helu, hstart, hfour, List.count_cons_self,
      Nat.mod_eq_of_lt (by rw [tickModulus_eq]; omega)]
    omega
  refine ⟨t, ?_, (windowOpen_iff_elapsed t).mpr (by omega), hut.dbLastTick.trans hsu.dbLastTick⟩
  rw [List.append_assoc]
  exact (runEvents_append _ hu).trans ht

/-! The aliasing of the window: 41_debouncer.md, R51 -/

/-- An edge leaves the state as it is exactly where the window is shut: an accepted one shuts the window (R48, R49). -/
theorem exec_btn_eq_self_iff (b : ButtonId) (s : State) : exec (.btn b) s = .next s ↔ ¬ WindowOpen s := by
  refine ⟨fun h hopen => ?_, exec_btn_rejected b s⟩
  have hself : s = press b (debouncerRecord b s) :=
    Host.Outcome.next.inj (h.symm.trans (exec_btn_accepted b s hopen))
  have hzero : elapsed s = 0 := (congrArg elapsed hself).trans (elapsed_press b s)
  rw [windowOpen_iff_elapsed, hzero] at hopen
  omega

/-- Settles O23: after `n` ticks the elapsed ticks are `n` modulo 2^TICK_W. -/
theorem windowAliasesWithTheCounterPeriod : Obligations.WindowAliasesWithTheCounterPeriod := by
  intro n s hlast
  obtain ⟨t, ht, _, hel⟩ :=
    runEvents_ticks_elapsed (es := List.replicate n .ltick) (fun e he => .inl (List.eq_of_mem_replicate he)) s
  rw [elapsed_of_just_pressed hlast, List.count_replicate_self, Nat.zero_add, tickModulus_eq] at hel
  have hopen : WindowOpen t ↔ 5 ≤ n % 2 ^ s.params.tickWidth.val := by rw [windowOpen_iff_elapsed, hel]
  exact ⟨t, ht, hopen, fun b => by rw [exec_btn_eq_self_iff, hopen, Nat.not_le]⟩

/-! The lock-out after reset: 41_debouncer.md, R52 -/

/-- Idle with a cleared matrix, and no press recorded since reset (R17, R52). -/
def NothingPressed (s : State) : Prop :=
  IsIdle s ∧ s.matrix = LedMatrix.zero ∧ s.dbLastTick = 0 ∧ s.dbLastBtn = .button0

theorem nothingPressed_resetState (p : Params) (ins : List Input) : NothingPressed (resetState p ins) :=
  ⟨⟨rfl, rfl, rfl⟩, rfl, rfl, rfl⟩

/-- While the window is shut every event keeps the block as reset left it, RESET too (R52). -/
theorem exec_keeps_nothingPressed {e : Instr} {s t : State} (hs : NothingPressed s) (hw : ¬ WindowOpen s)
    (h : exec e s = .next t) : NothingPressed t := by
  rcases exec_cases h with
    ⟨_, rfl⟩ | ⟨_, rfl⟩ | ⟨_, rfl⟩ | ⟨_, rfl⟩ | ⟨b, _, hopen, _⟩ | ⟨b, _, _, rfl⟩
  · exact hs
  · exact nothingPressed_resetState s.params s.inputs
  · simpa [NothingPressed, IsIdle] using hs
  · have ⟨⟨hvalid, _⟩, _⟩ := hs
    simpa [NothingPressed, IsIdle, logicalTick_matrix_of_idle hvalid] using hs
  · exact absurd hopen hw
  · exact hs

theorem runEvents_keeps_nothingPressed {es : List Instr} {s : State} (hs : NothingPressed s)
    (hshut : elapsed s + es.count .ltick < 5) : ∃ t, runEvents es s = .next t ∧ NothingPressed t := by
  induction es generalizing s with
  | nil => exact ⟨s, rfl, hs⟩
  | cons e es ih =>
    rw [count_ltick_cons] at hshut
    obtain ⟨u, hu⟩ := exec_completes e s
    have hle := exec_elapsed_le hu
    have hw : ¬ WindowOpen s := by rw [windowOpen_iff_elapsed]; omega
    obtain ⟨t, ht, hnone⟩ := ih (exec_keeps_nothingPressed hs hw hu) (by omega)
    exact ⟨t, (runEvents_cons es hu).trans ht, hnone⟩

/-- Settles O24: reset leaves no elapsed ticks, a further RESET none again, so the window stays shut for the whole
run. -/
theorem lockOutAfterReset : Obligations.LockOutAfterReset := fun p ins _ hcount =>
  runEvents_keeps_nothingPressed (nothingPressed_resetState p ins) (by rwa [elapsed_resetState, Nat.zero_add])

end Sys2Proof.Machine

namespace Sys2Proof.Machine

/-! The transition on an accepted press: 42_mode_controller.md, R53 to R56 -/

theorem press_of_speed_ne_two {b : ButtonId} {s : State} (hv : s.actValid = true) (hb : s.actBtn = b)
    (hsp : s.speed ≠ 2) : press b s = speedUp s := by
  simp [press, pressesActive, hv, hb, hsp]

theorem press_of_speed_two {b : ButtonId} {s : State} (hv : s.actValid = true) (hb : s.actBtn = b)
    (hsp : s.speed = 2) : press b s = turnOff s := by
  simp [press, pressesActive, hv, hb, hsp]

theorem press_of_other {b : ButtonId} {s : State} (h : s.actValid = false ∨ s.actBtn ≠ b) :
    press b s = switchTo b s := by
  rcases h with hv | hb
  · simp [press, pressesActive, hv]
  · simp [press, pressesActive, hb]

/-- Below the slowest speed the sum does not wrap (R54). -/
theorem speed_succ_val {sp : Speed} (h : sp ≠ 2) : (sp + 1).val = sp.val + 1 := by
  revert sp
  decide

/-- One speed level more is twice the frame delay (R54, R58). -/
theorem delay_speed_succ {sp : Speed} (h : sp ≠ 2) : delay (sp + 1) = 2 * delay sp := by
  rw [delay_eq, delay_eq, speed_succ_val h, Nat.pow_succ, Nat.mul_comm]

/-- Settles O17: the press is recorded and the speed raised, and neither touches another register. -/
theorem pressOfActiveButtonSlowsDown : Obligations.PressOfActiveButtonSlowsDown := by
  intro b s hw hv hb hsp
  refine ⟨?_, speed_succ_val hsp, delay_speed_succ hsp⟩
  rw [exec_btn_accepted b s hw, press_of_speed_ne_two (s := debouncerRecord b s) hv hb hsp]
  rfl

/-- On a cleared matrix the next strobe is dark, under either policy (R73). -/
theorem nextStrobeDark_of_matrix_zero {s : State} (h : s.matrix = LedMatrix.zero) : NextStrobeDark s := by
  rw [← targetMask_eq_zero_iff, targetMask, h, matrixRead_zero]

/-- A high-rate tick whose strobe is dark leaves the outputs off and the cursor where it was (R70, R73). -/
theorem htick_of_dark {s : State} (h : NextStrobeDark s) :
    (strobe (audioTick s)).ledOut = 0#12 ∧ (strobe (audioTick s)).gndOut = 0#3 ∧
    (strobe (audioTick s)).muxCursor = s.muxCursor := by
  rw [strobe_of_dark ((nextStrobeDark_audioTick_iff s).mpr h)]
  simp [breakOutputs]

/-- Settles O18: the press is recorded and the mode turned off, and the next strobe finds the matrix cleared. -/
theorem pressAtSpeedTwoTurnsOff : Obligations.PressAtSpeedTwoTurnsOff := by
  intro b s hw hv hb hsp
  have hexec : exec (.btn b) s = .next (turnOff (debouncerRecord b s)) := by
    rw [exec_btn_accepted b s hw, press_of_speed_two (s := debouncerRecord b s) hv hb hsp]
  have hdark : NextStrobeDark (turnOff (debouncerRecord b s)) := nextStrobeDark_of_matrix_zero rfl
  exact ⟨hexec, _, runEvents_cons [.htick] hexec, htick_of_dark hdark⟩

/-- Settles O19: the press is recorded and the mode switched, and neither touches another register. -/
theorem pressOfOtherButtonSwitches : Obligations.PressOfOtherButtonSwitches := by
  intro b s hw hother
  rw [exec_btn_accepted b s hw, press_of_other (s := debouncerRecord b s) hother]
  rfl

/-! The modes before and after a press: 42_mode_controller.md, R53 -/

/-- A press of the active button below the slowest speed: the next speed, the matrix kept (R54). -/
theorem press_of_isActive {b : ButtonId} {sp : Speed} {s : State} (h : IsActive b sp s) (hsp : sp ≠ 2) :
    IsActive b (sp + 1) (press b s) ∧ (press b s).matrix = s.matrix := by
  obtain ⟨hv, hb, rfl⟩ := h
  rw [press_of_speed_ne_two hv hb hsp]
  exact ⟨⟨hv, hb, rfl⟩, rfl⟩

/-- A press of the active button at the slowest speed: Idle, the matrix cleared (R55). -/
theorem press_of_isActive_two {b : ButtonId} {s : State} (h : IsActive b 2 s) :
    IsIdle (press b s) ∧ (press b s).matrix = LedMatrix.zero := by
  obtain ⟨hv, hb, hsp⟩ := h
  rw [press_of_speed_two hv hb hsp]
  exact ⟨⟨rfl, rfl, rfl⟩, rfl⟩

/-- A press in Idle or of another button: that button at speed 0, the matrix cleared (R56). -/
theorem isActive_zero_press_of_other {b : ButtonId} {s : State} (h : s.actValid = false ∨ s.actBtn ≠ b) :
    IsActive b 0 (press b s) ∧ (press b s).matrix = LedMatrix.zero := by
  rw [press_of_other h]
  exact ⟨⟨rfl, rfl, rfl⟩, rfl⟩

/-- Settles O20, row by row: the record of the press leaves the mode and the matrix for the press to read. -/
theorem pressFollowsTheTransitionTable : Obligations.PressFollowsTheTransitionTable := by
  intro b s hw
  have hmode : ∀ {a sp}, IsActive a sp s → IsActive a sp (debouncerRecord b s) := id
  refine ⟨press b (debouncerRecord b s), exec_btn_accepted b s hw, fun ⟨hidle, _⟩ => ?_, fun h => ?_, fun h => ?_,
    fun h => ?_, fun a sp hne ⟨_, ha, _⟩ => ?_⟩
  · exact isActive_zero_press_of_other (.inl hidle)
  · exact press_of_isActive (hmode h) (by decide)
  · exact press_of_isActive (hmode h) (by decide)
  · exact press_of_isActive_two (hmode h)
  · exact isActive_zero_press_of_other (.inr fun hb => hne (ha.symm.trans hb))

/-! Presses spread over time: 42_mode_controller.md, R54 and R55; 90_conflicts.md, C4 -/

/-- Events that are neither edges nor resets, with at least five ticks and less than a period of the counter among
them. -/
def QuietWait (p : Params) (es : List Instr) : Prop :=
  (∀ e ∈ es, e = .ltick ∨ e = .htick ∨ e = .idle) ∧ 5 ≤ es.count .ltick ∧ es.count .ltick < 2 ^ p.tickWidth.val

theorem KeepsPress.isActive {s u : State} (h : KeepsPress s u) {b : ButtonId} {sp : Speed}
    (hs : IsActive b sp s) : IsActive b sp u := by
  obtain ⟨hv, hb, hsp⟩ := hs
  exact ⟨h.actValid.trans hv, h.actBtn.trans hb, h.speed.trans hsp⟩

/-- The first edge after a wait that follows a press is accepted, and finds the mode that the press before it left. -/
theorem runEvents_wait_press {es : List Instr} {s : State} (hlast : s.dbLastTick = s.tick)
    (hes : QuietWait s.params es) (b : ButtonId) :
    ∃ u, runEvents (es ++ [.btn b]) s = .next (press b (debouncerRecord b u)) ∧ KeepsPress s u := by
  obtain ⟨hquiet, hfive, hperiod⟩ := hes
  obtain ⟨u, hu, hkeep, hel⟩ := runEvents_ticks_elapsed hquiet s
  rw [elapsed_of_just_pressed hlast, Nat.zero_add, tickModulus_eq, Nat.mod_eq_of_lt hperiod] at hel
  have hopen : WindowOpen u := (windowOpen_iff_elapsed u).mpr (hel ▸ hfive)
  exact ⟨u, (runEvents_append _ hu).trans (runEvents_cons [] (exec_btn_accepted b u hopen)), hkeep⟩

/-- A wait and a further press below the slowest speed: one speed more, and ready for the next wait (R54). -/
theorem runEvents_wait_press_slowsDown {es : List Instr} {b : ButtonId} {sp : Speed} {s : State}
    (hs : IsActive b sp s) (hsp : sp ≠ 2) (hlast : s.dbLastTick = s.tick) (hes : QuietWait s.params es) :
    ∃ t, runEvents (es ++ [.btn b]) s = .next t ∧ IsActive b (sp + 1) t ∧ t.dbLastTick = t.tick ∧
      t.params = s.params := by
  obtain ⟨u, hrun, hkeep⟩ := runEvents_wait_press hlast hes b
  have hactive : IsActive b sp (debouncerRecord b u) := hkeep.isActive hs
  obtain ⟨hnext, _⟩ := press_of_isActive hactive hsp
  exact ⟨_, hrun, hnext, by simp, by simp [hkeep.params]⟩

/-- A wait and a further press at the slowest speed: Idle with a cleared matrix, the press recorded (R55). -/
theorem runEvents_wait_press_turnsOff {es : List Instr} {b : ButtonId} {s : State} (hs : IsActive b 2 s)
    (hlast : s.dbLastTick = s.tick) (hes : QuietWait s.params es) :
    ∃ t, runEvents (es ++ [.btn b]) s = .next t ∧ IsIdle t ∧ t.matrix = LedMatrix.zero ∧ t.dbLastTick = t.tick ∧
      t.dbLastBtn = b := by
  obtain ⟨u, hrun, hkeep⟩ := runEvents_wait_press hlast hes b
  have hactive : IsActive b 2 (debouncerRecord b u) := hkeep.isActive hs
  obtain ⟨hidle, hzero⟩ := press_of_isActive_two hactive
  exact ⟨_, hrun, hidle, hzero, by simp, by simp⟩

/-- Settles O25: two waits with a press raise the speed from 0 to 2, and the third turns off. -/
theorem threeRepressesTurnOff : Obligations.ThreeRepressesTurnOff := by
  intro b s es₁ es₂ es₃ hs hlast hes
  have hwait : ∀ es ∈ [es₁, es₂, es₃], QuietWait s.params es := hes
  obtain ⟨s₁, hrun₁, hs₁, hlast₁, hp₁⟩ :=
    runEvents_wait_press_slowsDown hs (by decide) hlast (hwait es₁ (by simp))
  obtain ⟨s₂, hrun₂, hs₂, hlast₂, hp₂⟩ :=
    runEvents_wait_press_slowsDown hs₁ (by decide) hlast₁ (hp₁ ▸ hwait es₂ (by simp))
  obtain ⟨t, hrun₃, ht⟩ :=
    runEvents_wait_press_turnsOff hs₂ hlast₂ (hp₂ ▸ hp₁ ▸ hwait es₃ (by simp))
  refine ⟨t, ?_, ht⟩
  calc runEvents (es₁ ++ [.btn b] ++ es₂ ++ [.btn b] ++ es₃ ++ [.btn b]) s
      = runEvents ((es₁ ++ [.btn b]) ++ ((es₂ ++ [.btn b]) ++ (es₃ ++ [.btn b]))) s := by simp
    _ = runEvents ((es₂ ++ [.btn b]) ++ (es₃ ++ [.btn b])) s₁ := runEvents_append _ hrun₁
    _ = runEvents (es₃ ++ [.btn b]) s₂ := runEvents_append _ hrun₂
    _ = .next t := hrun₃

/-! The logical tick: 42_mode_controller.md, R57 to R61 -/

/-- Settles O26: the tick counts, and generates no frame. -/
theorem ltickBetweenFramesOnlyCounts : Obligations.LtickBetweenFramesOnlyCounts := by
  intro s hne
  rcases logicalTick_cases s with ⟨_, h⟩ | ⟨he, _⟩
  · rw [exec_ltick, h]
    rfl
  · exact absurd he hne

/-- Under LAST_PUBLISHED a frame selects the last layer of PUBLISH_ORDER (R60). -/
theorem publishedLayer_eq {s : State} {l : Layer} (hl : s.params.publishOrder.val.getLast? = some l) :
    publishedLayer s = if s.params.layerPolicy = .lastPublished then l else s.selLayer := by
  rw [publishedLayer, List.getLastD_eq_getLast?, hl, Option.getD_some]

/-- Settles O27: the tick counts, and the frame writes the generated matrix and the published layer alone. -/
theorem ltickGeneratesAFrame : Obligations.LtickGeneratesAFrame := by
  intro s he
  obtain ⟨l, hl⟩ := publishOrder_getLast s.params
  refine ⟨l, hl, ?_⟩
  rcases logicalTick_cases s with ⟨hne, _⟩ | ⟨_, h⟩
  · exact absurd he hne
  · rw [exec_ltick, h, frame_eq, publishedLayer_eq (s := countTick s) hl]
    rfl

/-- After `n` logical ticks the counter has advanced by `n` modulo 2^TICK_W, and the mode is kept (R57). -/
theorem runEvents_ltick_tick (n : Nat) {s : State} (hs : s.tick < tickModulus s.params) :
    ∃ t, runEvents (List.replicate n .ltick) s = .next t ∧ KeepsPress s t ∧
      t.tick = (s.tick + n) % tickModulus s.params := by
  induction n generalizing s with
  | zero => exact ⟨s, rfl, .refl s, (Nat.mod_eq_of_lt hs).symm⟩
  | succ n ih =>
    have hlt : (logicalTick s).tick < tickModulus (logicalTick s).params := by simp [tickSucc_lt]
    have hkeep : KeepsPress s (logicalTick s) := by constructor <;> simp
    obtain ⟨t, ht, hut, htick⟩ := ih hlt
    refine ⟨t, (runEvents_cons _ (exec_ltick s)).trans ht, hkeep.trans hut, ?_⟩
    rw [htick, hkeep.params, logicalTick_tick, tickSucc, Nat.mod_add_mod, Nat.add_assoc, Nat.add_comm 1 n]

/-- Settles O28: the frame delay divides 2^TICK_W, so the reduction of the counter does not change the remainder that
the eligibility test looks at. -/
theorem frameCadenceSurvivesTheWrap : Obligations.FrameCadenceSurvivesTheWrap := by
  intro n s hs
  obtain ⟨t, ht, hkeep, htick⟩ := runEvents_ltick_tick n hs
  refine ⟨t, ht, htick, hkeep.speed, ?_⟩
  have hdvd := delay_dvd_tickModulus s.params s.speed
  rw [hkeep.speed, htick, ← delay_eq, Nat.mod_mod_of_dvd _ hdvd]

/-! The driven layer under LAST_PUBLISHED: 42_mode_controller.md, R60; 44_multiplexer.md, R71 -/

/-- A strobe asserts no ground line, or that of its target layer (R73, R76). -/
theorem strobe_gndOut (s : State) :
    (strobe s).gndOut = 0#3 ∨ (strobe s).gndOut = onehot3 (targetLayer s) := by
  by_cases h : NextStrobeDark s
  · exact .inl (by simp [strobe_of_dark h, breakOutputs])
  · exact .inr (by simp [strobe_of_lit h, fireLayer])

/-- Under LAST_PUBLISHED the layer `l`, the last of PUBLISH_ORDER, is selected, and no other layer's ground line is
asserted. -/
structure DrivesOnlyLast (l : Layer) (s : State) : Prop where
  policy : s.params.layerPolicy = .lastPublished
  last : s.params.publishOrder.val.getLast? = some l
  selLayer : s.selLayer = l
  gndOut : s.gndOut = 0#3 ∨ s.gndOut = onehot3 l

theorem DrivesOnlyLast.htick {l : Layer} {s : State} (hs : DrivesOnlyLast l s) :
    DrivesOnlyLast l (strobe (audioTick s)) := by
  have htarget : targetLayer (audioTick s) = l := by
    rw [targetLayer_audioTick, targetLayer_of_lastPublished hs.policy, hs.selLayer]
  exact
    { policy := by simp [hs.policy]
      last := by simp [hs.last]
      selLayer := (strobe_selLayer _).trans htarget
      gndOut := htarget ▸ strobe_gndOut (audioTick s) }

/-- A frame publishes the last layer, which is the one selected (R60). -/
theorem DrivesOnlyLast.ltick {l : Layer} {s : State} (hs : DrivesOnlyLast l s) :
    DrivesOnlyLast l (logicalTick s) := by
  have hsel : (logicalTick s).selLayer = l := by
    rcases logicalTick_cases s with ⟨_, h⟩ | ⟨_, h⟩
    · simp [h, hs.selLayer]
    · rw [h, frame_selLayer, publishedLayer_eq (s := countTick s) hs.last]
      exact if_pos hs.policy
  exact
    { policy := by simp [hs.policy]
      last := by simp [hs.last]
      selLayer := hsel
      gndOut := by simpa using hs.gndOut }

theorem DrivesOnlyLast.btn {l : Layer} {s : State} (hs : DrivesOnlyLast l s) (b : ButtonId) :
    DrivesOnlyLast l (press b (debouncerRecord b s)) where
  policy := by simp [hs.policy]
  last := by simp [hs.last]
  selLayer := by simp [hs.selLayer]
  gndOut := by simpa using hs.gndOut

theorem exec_keeps_drivesOnlyLast {e : Instr} (hne : e ≠ .reset) {l : Layer} {s t : State}
    (hs : DrivesOnlyLast l s) (h : exec e s = .next t) : DrivesOnlyLast l t := by
  rcases exec_cases h with
    ⟨_, rfl⟩ | ⟨hreset, _⟩ | ⟨_, rfl⟩ | ⟨_, rfl⟩ | ⟨b, _, _, rfl⟩ | ⟨b, _, _, rfl⟩
  · exact hs
  · exact absurd hreset hne
  · exact hs.htick
  · exact hs.ltick
  · exact hs.btn b
  · exact hs

/-- What each of some events keeps, their run keeps. -/
theorem runEvents_keeps {P : State → Prop} {es : List Instr}
    (hkeep : ∀ e ∈ es, ∀ s t : State, P s → exec e s = .next t → P t) {s : State} (hs : P s) :
    ∃ t, runEvents es s = .next t ∧ P t := by
  induction es generalizing s with
  | nil => exact ⟨s, rfl, hs⟩
  | cons e es ih =>
    obtain ⟨hhead, htail⟩ := List.forall_mem_cons.mp hkeep
    obtain ⟨u, hu⟩ := exec_completes e s
    obtain ⟨t, ht, hPt⟩ := ih htail (hhead s u hs hu)
    exact ⟨t, (runEvents_cons es hu).trans ht, hPt⟩

/-- Settles O39: every event but RESET keeps the last layer the only one driven. -/
theorem onlyTheLastPublishedLayerIsDriven : Obligations.OnlyTheLastPublishedLayerIsDriven := by
  intro es s l hreset hpolicy hlast hsel hgnd
  have hstep : ∀ e ∈ es, ∀ s t : State, DrivesOnlyLast l s → exec e s = .next t → DrivesOnlyLast l t :=
    fun e he _ _ => exec_keeps_drivesOnlyLast fun h => hreset (h ▸ he)
  obtain ⟨t, ht, hdriven⟩ := runEvents_keeps hstep ⟨hpolicy, hlast, hsel, hgnd⟩
  exact ⟨t, ht, hdriven.selLayer, hdriven.gndOut⟩

end Sys2Proof.Machine

namespace Sys2Proof.Machine

/-! The patterns: 43_pattern_generator.md, R62 to R67 -/

/-- The published cycles of R64 to R66 read as chains: a list whose entries each step to the next one holds the iterates
of the step. -/
theorem map_iterate_of_isChain {α : Type} {f : α → α} {a : α} {l : List α}
    (h : List.IsChain (fun x y => f x = y) (a :: l)) :
    (List.range l.length).map (fun k => f^[k + 1] a) = l := by
  induction l generalizing a with
  | nil => rfl
  | cons b l ih =>
    obtain ⟨rfl, htail⟩ := List.isChain_cons_cons.mp h
    rw [List.length_cons, List.range_succ_eq_map, List.map_cons, List.map_map]
    exact congrArg (f a :: ·) (ih htail)

/-! No active button: R63 -/

/-- Settles O29: an eligible tick generates the same matrix, and another tick does not touch it. -/
theorem noActiveButtonKeepsTheMatrix : Obligations.NoActiveButtonKeepsTheMatrix :=
  ⟨patternGen_idle, fun s h => ⟨logicalTick s, exec_ltick s, logicalTick_matrix_of_idle h⟩⟩

/-! The chase and the sparse pulse: R64 and R65 -/

theorem patternGen_button0 (p : Params) (m : LedMatrix) :
    patternGen p true .button0 m = { m with m0 := chase p m.m0 } := rfl

theorem patternGen_button1 (p : Params) (m : LedMatrix) :
    patternGen p true .button1 m = { m with m1 := sparse p m.m1 } := rfl

/-- Bit by bit: bit 0 is lost, bit 11 becomes 0 (R6). -/
theorem getLsbD_shr12 (v : Mask) (i : Nat) :
    (shr12 v).getLsbD i = (decide (i < 11) && v.getLsbD (i + 1)) := by
  rw [shr12, BitVec.getLsbD_ushiftRight, Nat.add_comm]
  by_cases hi : i < 11
  · simp [hi]
  · simp [hi, BitVec.getLsbD_of_ge v (i + 1) (by omega)]

theorem chase_of_zero (p : Params) {v : Mask} (h : v = 0#12) : chase p v = p.chaseSeed :=
  if_pos h

theorem chase_of_ne_zero (p : Params) {v : Mask} (h : v ≠ 0#12) : chase p v = shr12 v :=
  if_neg h

theorem sparse_of_zero (p : Params) {v : Mask} (h : v = 0#12) : sparse p v = p.sparseSeed :=
  if_pos h

theorem sparse_of_sparseEnd {p : Params} {v : Mask} (h : v ≠ 0#12) (hend : v = p.sparseEnd) :
    sparse p v = 0#12 :=
  (if_neg h).trans (if_pos hend)

theorem sparse_of_ne {p : Params} {v : Mask} (h : v ≠ 0#12) (hend : v ≠ p.sparseEnd) :
    sparse p v = shr12 v :=
  (if_neg h).trans (if_neg hend)

/-- The 13 frames of R64 from the dark layer, and the first one again. -/
theorem chase_isChain {p : Params} (hseed : p.chaseSeed = 0x800#12) :
    List.IsChain (fun x y => chase p x = y)
      [0x000#12, 0x800#12, 0x400#12, 0x200#12, 0x100#12, 0x080#12, 0x040#12, 0x020#12, 0x010#12, 0x008#12, 0x004#12,
        0x002#12, 0x001#12, 0x000#12, 0x800#12] := by
  simp only [chase, hseed]
  decide

/-- The 4 frames of R65 from the dark layer, and the first one again. -/
theorem sparse_isChain {p : Params} (hseed : p.sparseSeed = 0x924#12) (hend : p.sparseEnd = 0x249#12) :
    List.IsChain (fun x y => sparse p x = y) [0x000#12, 0x924#12, 0x492#12, 0x249#12, 0x000#12, 0x924#12] := by
  simp only [sparse, hseed, hend]
  decide

/-- Settles O30: the chase of layer 0 in the terms of R64, and its cycle. -/
theorem chaseShiftsLayerZero : Obligations.ChaseShiftsLayerZero := by
  refine ⟨fun p m => ?_, fun p hseed => map_iterate_of_isChain (chase_isChain hseed)⟩
  rw [patternGen_button0]
  refine ⟨rfl, rfl, chase_of_zero p, fun hne i => ?_⟩
  rw [chase_of_ne_zero p hne, getLsbD_shr12]

/-- Settles O31: the sparse pulse of layer 1 in the terms of R65, and its cycle. -/
theorem sparseStepsLayerOne : Obligations.SparseStepsLayerOne := by
  refine ⟨fun p m => ?_, fun p hseed hend => map_iterate_of_isChain (sparse_isChain hseed hend)⟩
  rw [patternGen_button1]
  refine ⟨rfl, rfl, sparse_of_zero p, sparse_of_sparseEnd, fun hne hend i => ?_⟩
  rw [sparse_of_ne hne hend, getLsbD_shr12]

/-! The rising fill: R66 and R67 -/

theorem patternGen_button2 (p : Params) (m : LedMatrix) : patternGen p true .button2 m = fill p m := rfl

theorem lit_eq_false_iff (v : Mask) : lit v = false ↔ v = 0#12 := by
  simp [lit]

theorem lit_eq_true_iff (v : Mask) : lit v = true ↔ v ≠ 0#12 := by
  simp [lit]

theorem fill_of_dark (p : Params) {m : LedMatrix} (h0 : m.m0 = 0#12) (h1 : m.m1 = 0#12) (h2 : m.m2 = 0#12) :
    fill p m = ⟨0#12, 0#12, p.full⟩ := by
  rw [← lit_eq_false_iff] at h0 h1 h2
  simp only [fill, h0, h1, h2]

theorem fill_of_only_m2 (p : Params) {m : LedMatrix} (h0 : m.m0 = 0#12) (h1 : m.m1 = 0#12) (h2 : m.m2 ≠ 0#12) :
    fill p m = ⟨0#12, p.full, 0#12⟩ := by
  rw [← lit_eq_false_iff] at h0 h1
  rw [← lit_eq_true_iff] at h2
  simp only [fill, h0, h1, h2]

theorem fill_of_only_m1 (p : Params) {m : LedMatrix} (h0 : m.m0 = 0#12) (h1 : m.m1 ≠ 0#12) (h2 : m.m2 = 0#12) :
    fill p m = ⟨p.full, 0#12, 0#12⟩ := by
  rw [← lit_eq_false_iff] at h0 h2
  rw [← lit_eq_true_iff] at h1
  simp only [fill, h0, h1, h2]

theorem fill_of_only_m0 (p : Params) {m : LedMatrix} (h0 : m.m0 ≠ 0#12) (h1 : m.m1 = 0#12) (h2 : m.m2 = 0#12) :
    fill p m = ⟨0#12, 0#12, 0#12⟩ := by
  rw [← lit_eq_false_iff] at h1 h2
  rw [← lit_eq_true_iff] at h0
  simp only [fill, h0, h1, h2, LedMatrix.zero]

/-- Where two layers are lit no row of R66 applies: whatever the third one is, the matrix stays (R67). -/
theorem fill_of_two_lit (p : Params) {m : LedMatrix}
    (h : (m.m0 ≠ 0#12 ∧ m.m1 ≠ 0#12) ∨ (m.m0 ≠ 0#12 ∧ m.m2 ≠ 0#12) ∨ (m.m1 ≠ 0#12 ∧ m.m2 ≠ 0#12)) :
    fill p m = m := by
  simp only [← lit_eq_true_iff] at h
  rcases h with ⟨h0, h1⟩ | ⟨h0, h2⟩ | ⟨h1, h2⟩
  · simp only [fill, h0, h1]
  · cases h1 : lit m.m1 <;> simp only [fill, h0, h1, h2]
  · cases h0 : lit m.m0 <;> simp only [fill, h0, h1, h2]

/-- The 4 frames of R66 from the dark matrix, and the first one again. -/
theorem fill_isChain {p : Params} (hfull : p.full = 0xFFF#12) :
    List.IsChain (fun x y => fill p x = y)
      [⟨0#12, 0#12, 0#12⟩, ⟨0#12, 0#12, 0xFFF#12⟩, ⟨0#12, 0xFFF#12, 0#12⟩, ⟨0xFFF#12, 0#12, 0#12⟩,
        ⟨0#12, 0#12, 0#12⟩, ⟨0#12, 0#12, 0xFFF#12⟩] := by
  simp only [fill, hfull]
  decide

/-- Settles O32: the rows of R66 by the layers that are lit, and the cycle. -/
theorem fillRaisesTheBar : Obligations.FillRaisesTheBar := by
  refine ⟨fun p m => ?_, fun p hfull => map_iterate_of_isChain (fill_isChain hfull)⟩
  rw [patternGen_button2]
  exact ⟨fill_of_dark p, fill_of_only_m2 p, fill_of_only_m1 p, fill_of_only_m0 p, fill_of_two_lit p⟩

end Sys2Proof.Machine

namespace Sys2Proof.Machine

/-! The layer a strobe drives: 44_multiplexer.md, R71 to R73 -/

/-- The next lit layer after `j`, case by case: the first lit one of `j + 1` and `j + 2`, or `j` itself (R72). -/
theorem nextLitLayer_cases (m : LedMatrix) (j : Layer) :
    (matrixRead m (j + 1) ≠ 0#12 ∧ nextLitLayer m j = j + 1) ∨
    (matrixRead m (j + 1) = 0#12 ∧ matrixRead m (j + 2) ≠ 0#12 ∧ nextLitLayer m j = j + 2) ∨
    (matrixRead m (j + 1) = 0#12 ∧ matrixRead m (j + 2) = 0#12 ∧ nextLitLayer m j = j) := by
  unfold nextLitLayer
  by_cases h1 : matrixRead m (j + 1) = 0#12
  · by_cases h2 : matrixRead m (j + 2) = 0#12
    · exact .inr (.inr ⟨h1, h2, by simp [h1, h2]⟩)
    · exact .inr (.inl ⟨h1, h2, by simp [h1, h2]⟩)
  · exact .inl ⟨h1, by simp [h1]⟩

/-- The cyclic search of R72 finds a lit layer exactly where that is the first lit one after `j`, `j` itself last. -/
theorem nextLitLayer_eq_iff {m : LedMatrix} {l : Layer} (hl : matrixRead m l ≠ 0#12) (j : Layer) :
    nextLitLayer m j = l ↔
      l = j + 1 ∨ (l = j + 2 ∧ matrixRead m (j + 1) = 0#12) ∨
        (l = j ∧ matrixRead m (j + 1) = 0#12 ∧ matrixRead m (j + 2) = 0#12) := by
  rcases nextLitLayer_cases m j with ⟨h1, h⟩ | ⟨h1, h2, h⟩ | ⟨h1, h2, h⟩
  · simp [h, h1, eq_comm]
  · have hne : l ≠ j + 1 := fun he => hl (he ▸ h1)
    simp [h, h1, h2, hne, eq_comm]
  · have hne1 : l ≠ j + 1 := fun he => hl (he ▸ h1)
    have hne2 : l ≠ j + 2 := fun he => hl (he ▸ h2)
    simp [h, h1, h2, hne1, hne2, eq_comm]

/-- The spec's selected layer, where it is lit, is the layer that the strobe drives (R71, R72). -/
theorem selectedNext_iff {s : State} {l : Layer} (hl : matrixRead s.matrix l ≠ 0#12) :
    SelectedNext s l ↔ targetLayer s = l := by
  unfold SelectedNext targetLayer
  cases s.params.layerPolicy
  · exact eq_comm
  · exact (and_iff_right hl).trans (nextLitLayer_eq_iff hl s.selLayer).symm

/-- A strobe has a selected lit layer exactly where it is not dark, and that layer is its target (R71 to R73). -/
theorem selectedNext_lit_iff (s : State) (l : Layer) :
    SelectedNext s l ∧ matrixRead s.matrix l ≠ 0#12 ↔ ¬ NextStrobeDark s ∧ targetLayer s = l := by
  rw [and_congr_left selectedNext_iff, and_comm, ← targetMask_eq_zero_iff, targetMask]
  exact and_congr_left fun h => by rw [h]

/-- Settles O35: the target layer is selected and lit exactly where the strobe is not dark. -/
theorem strobeIsDarkOrLit : Obligations.StrobeIsDarkOrLit := by
  intro s
  simp only [selectedNext_lit_iff, exists_and_left, exists_eq', and_true]
  exact ⟨em _, and_not_self⟩

/-! The high-rate tick, register by register: R69 to R76 -/

/-- Only a high-rate tick and a RESET write the LED and the ground outputs (R7). -/
theorem exec_keeps_outputs {e : Instr} {s t : State} (hne : e ≠ .htick) (hreset : e ≠ .reset)
    (h : exec e s = .next t) : t.ledOut = s.ledOut ∧ t.gndOut = s.gndOut := by
  obtain ⟨_, _, _, _, _, _, _, _, _, hout⟩ := onlyOwnersChangeRegisters e s t h
  have hkept := mt hout (by simp [hne, hreset])
  simp only [not_or, not_not] at hkept
  obtain ⟨hled, hgnd, _⟩ := hkept
  exact ⟨hled, hgnd⟩

/-- The outputs are held until the next high-rate tick or a RESET (R76). -/
theorem runEvents_keeps_outputs {es : List Instr} (hes : Instr.htick ∉ es) (hreset : Instr.reset ∉ es) (s : State) :
    ∃ u, runEvents es s = .next u ∧ u.ledOut = s.ledOut ∧ u.gndOut = s.gndOut := by
  refine runEvents_keeps (P := fun u => u.ledOut = s.ledOut ∧ u.gndOut = s.gndOut) (fun e he t u ht hexec => ?_)
    ⟨rfl, rfl⟩
  obtain ⟨hled, hgnd⟩ := exec_keeps_outputs (fun h => hes (h ▸ he)) (fun h => hreset (h ▸ he)) hexec
  exact ⟨hled.trans ht.1, hgnd.trans ht.2⟩

/-- Outputs that are off stay off until a high-rate tick: a RESET switches them off again (R96). -/
theorem exec_keeps_off {e : Instr} {s t : State} (hne : e ≠ .htick) (hs : s.ledOut = 0#12 ∧ s.gndOut = 0#3)
    (h : exec e s = .next t) : t.ledOut = 0#12 ∧ t.gndOut = 0#3 := by
  by_cases hreset : e = .reset
  · subst hreset
    cases h
    exact ⟨rfl, rfl⟩
  · obtain ⟨hled, hgnd⟩ := exec_keeps_outputs hne hreset h
    exact ⟨hled.trans hs.1, hgnd.trans hs.2⟩

/-- Settles O33: a dark strobe is the two deactivating writes, after the audio part; every other event keeps the outputs
off. -/
theorem darkStrobeOnlySwitchesOff : Obligations.DarkStrobeOnlySwitchesOff := by
  intro s hdark
  have hstrobe : strobe (audioTick s) = breakOutputs (audioTick s) :=
    strobe_of_dark ((nextStrobeDark_audioTick_iff s).mpr hdark)
  refine ⟨?_, fun es hes => ?_⟩
  · rw [exec_htick, hstrobe, audioTick_eq]
    simp [breakOutputs, outGnd, outLed]
  · obtain ⟨u, hu, hoff⟩ := runEvents_keeps (P := fun t => t.ledOut = 0#12 ∧ t.gndOut = 0#3)
      (fun e he _ _ => exec_keeps_off fun h => hes (h ▸ he))
      (s := strobe (audioTick s)) (by simp [hstrobe, breakOutputs])
    exact ⟨u, (runEvents_cons es (exec_htick s)).trans hu, hoff⟩

/-- A high-rate tick whose target is lit: the audio part, then the two deactivating writes, the target layer selected
and its mask fired (R70 to R76). -/
theorem htick_of_lit {s : State} (h : ¬ NextStrobeDark s) :
    strobe (audioTick s) =
      fireLayer (targetMask s) (setSelLayer (targetLayer s) (breakOutputs (audioTick s))) := by
  rw [strobe_of_lit (mt (nextStrobeDark_audioTick_iff s).mp h), targetMask_audioTick, targetLayer_audioTick]

/-- What a high-rate tick with a lit target leaves in the multiplexer's registers (R72, R75, R76). -/
theorem htick_of_lit_registers {s : State} (h : ¬ NextStrobeDark s) :
    (strobe (audioTick s)).ledOut = (fireSubset (targetMask s) s.muxCursor).1 ∧
    (strobe (audioTick s)).gndOut = onehot3 (targetLayer s) ∧
    (strobe (audioTick s)).muxCursor = (fireSubset (targetMask s) s.muxCursor).2 + 1 := by
  simp [htick_of_lit h, fireLayer_eq, breakOutputs]

/-- Settles O34: the lit strobe is the four writes, after the audio part; events other than a high-rate tick and a RESET
keep the outputs. -/
theorem litStrobeFiresTheSubset : Obligations.LitStrobeFiresTheSubset := by
  intro s l hsel hlit
  obtain ⟨hnd, rfl⟩ := (selectedNext_lit_iff s l).mp ⟨hsel, hlit⟩
  obtain ⟨hled, hgnd, _⟩ := htick_of_lit_registers hnd
  refine ⟨?_, fun es hes hreset => ?_⟩
  · rw [exec_htick, htick_of_lit hnd, fireLayer_eq, audioTick_eq]
    simp [breakOutputs, outGnd, outLed, setSelLayer, setMuxCursor, targetMask]
  · obtain ⟨u, hu, hledu, hgndu⟩ := runEvents_keeps_outputs hes hreset (strobe (audioTick s))
    exact ⟨u, (runEvents_cons es (exec_htick s)).trans hu, hledu.trans hled, hgndu.trans hgnd⟩

/-! The scan of the fired subset: 44_multiplexer.md, R74 -/

theorem bitPositions_eq : bitPositions = List.finRange 12 := rfl

/-- The first `n + 1` positions are the first `n` and position `n`. -/
theorem take_succ_bitPositions {n : Nat} (h : n < 12) :
    bitPositions.take (n + 1) = bitPositions.take n ++ [⟨n, h⟩] := by
  rw [bitPositions_eq, List.take_succ_eq_append_getElem (by simpa using h), List.getElem_finRange]
  rfl

@[simp] theorem setBitsBefore_zero (t : Mask) (c : BitPos) : setBitsBefore t c 0 = 0 := rfl

theorem setBitsBefore_succ (t : Mask) (c k : BitPos) :
    setBitsBefore t c (k.val + 1) = setBitsBefore t c k.val + if testBit t (c + k) = true then 1 else 0 := by
  rw [setBitsBefore, take_succ_bitPositions k.isLt, List.countP_append, List.countP_singleton]
  rfl

theorem setBitsBefore_mono (t : Mask) (c : BitPos) {m n : Nat} (h : m ≤ n) :
    setBitsBefore t c m ≤ setBitsBefore t c n :=
  (List.take_sublist_take_left h).countP_le

theorem setBitsBefore_le (t : Mask) (c : BitPos) (n : Nat) : setBitsBefore t c n ≤ n :=
  List.countP_le_length.trans (List.length_take_le n bitPositions)

/-- The scan visits each position once, so it meets every set bit of the mask. -/
theorem setBitsBefore_all (t : Mask) (c : BitPos) : setBitsBefore t c 12 = popcount12 t := by
  have hperm : (bitPositions.map (c + ·)).Perm bitPositions := by
    revert c
    decide
  exact (List.countP_map ..).symm.trans (hperm.countP_eq (testBit t))

/-- A scan of `m + n` positions is one of `m` positions and one of `n` from where it stopped. -/
theorem setBitsBefore_add (t : Mask) (c m : BitPos) {n : Nat} (h : m.val + n ≤ 12) :
    setBitsBefore t c (m.val + n) = setBitsBefore t c m.val + setBitsBefore t (c + m) n := by
  induction n with
  | zero => simp
  | succ n ih =>
    have hn : n < 12 := by omega
    have hsum : (m + ⟨n, hn⟩ : BitPos).val = m.val + n := by
      rw [Fin.val_add, Nat.mod_eq_of_lt (by simp only; omega)]
    have hleft := setBitsBefore_succ t c (m + ⟨n, hn⟩)
    have hright := setBitsBefore_succ t (c + m) ⟨n, hn⟩
    rw [hsum, ← add_assoc] at hleft
    rw [← Nat.add_assoc, hleft, ih (by omega), hright, Nat.add_assoc]

/-- The rule of R74 for the position `k` places after the cursor: it is set, and fewer than six set ones come before
it. -/
def Fires (t : Mask) (c k : BitPos) : Prop :=
  testBit t (c + k) = true ∧ setBitsBefore t c k.val < 6

theorem lt_succ_and_fires_iff (t : Mask) (c j k : BitPos) :
    (j.val < k.val + 1 ∧ Fires t c j) ↔ (j.val < k.val ∧ Fires t c j) ∨ (k = j ∧ Fires t c k) := by
  rw [Nat.lt_succ_iff_lt_or_eq, or_and_right, ← Fin.ext_iff, eq_comm (a := j)]
  exact or_congr_right (and_congr_right fun h => by rw [h])

/-- The scan after its first `n` positions (R74). -/
def scanFirst (t : Mask) (c : BitPos) (n : Nat) : FireScan :=
  (bitPositions.take n).foldl (fireStep t c) { fired := 0#12, taken := 0, last := c }

theorem fireScan_eq_scanFirst (t : Mask) (c : BitPos) : fireScan t c = scanFirst t c 12 := rfl

theorem scanFirst_succ (t : Mask) (c k : BitPos) :
    scanFirst t c (k.val + 1) = fireStep t c (scanFirst t c k.val) k := by
  rw [scanFirst, take_succ_bitPositions k.isLt, List.foldl_append]
  rfl

theorem scanFirst_taken (t : Mask) (c : BitPos) (n : Nat) :
    (scanFirst t c n).taken = min 6 (setBitsBefore t c n) := by
  rw [scanFirst, foldl_fireStep_taken t c _ _ (Nat.zero_le 6), Nat.zero_add]
  rfl

/-- What a scan has fired after its first `n` positions (R74): those that the rule fires, `last` the last of them. -/
structure FireScan.ScannedTo (t : Mask) (c : BitPos) (n : Nat) (a : FireScan) : Prop where
  fired : ∀ k : BitPos, testBit a.fired (c + k) = true ↔ k.val < n ∧ Fires t c k
  last_fired : 0 < a.taken → testBit a.fired a.last = true
  le_last : ∀ k : BitPos, testBit a.fired (c + k) = true → k ≤ a.last - c
  setBits_last : 0 < a.taken → setBitsBefore t c ((a.last - c).val + 1) = a.taken

/-- One iteration, once the scan has taken the set positions before it up to six. -/
theorem fireStep_scannedTo {t : Mask} {c k : BitPos} {a : FireScan}
    (htaken : a.taken = min 6 (setBitsBefore t c k.val)) (h : a.ScannedTo t c k.val) :
    (fireStep t c a k).ScannedTo t c (k.val + 1) := by
  rcases fireStep_cases t c a k with ⟨hlt, hbit, hs⟩ | ⟨hn, hs⟩
  · have hfires : Fires t c k := ⟨hbit, by omega⟩
    have hfired : ∀ j : BitPos, testBit (setBit a.fired (c + k)) (c + j) = true ↔
        j.val < k.val + 1 ∧ Fires t c j := fun j => by
      rw [testBit_setBit, Bool.or_eq_true, decide_eq_true_eq, h.fired, add_right_inj, lt_succ_and_fires_iff,
        and_iff_left hfires]
    have hcount : setBitsBefore t c (k.val + 1) = a.taken + 1 := by
      rw [setBitsBefore_succ, if_pos hbit]
      omega
    rw [hs]
    exact
      { fired := hfired
        last_fired := fun _ => by simp [testBit_setBit]
        le_last := fun j hj => by
          obtain ⟨hle, _⟩ := (hfired j).mp hj
          rw [add_sub_cancel_left]
          exact Nat.le_of_lt_succ hle
        setBits_last := fun _ => by rw [add_sub_cancel_left, hcount] }
  · have hnot : ¬ Fires t c k := fun ⟨hbit, hlt⟩ => hn ⟨by omega, hbit⟩
    rw [hs]
    exact { h with fired := fun j => by rw [h.fired, lt_succ_and_fires_iff, or_iff_left fun hk => hnot hk.2] }

theorem scanFirst_scannedTo (t : Mask) (c : BitPos) {n : Nat} (hn : n ≤ 12) :
    (scanFirst t c n).ScannedTo t c n := by
  induction n with
  | zero => constructor <;> simp [scanFirst]
  | succ n ih =>
    have hstep := scanFirst_succ t c ⟨n, hn⟩
    rw [hstep]
    exact fireStep_scannedTo (k := ⟨n, hn⟩) (scanFirst_taken t c n) (ih (by omega))

theorem fireScan_scannedTo (t : Mask) (c : BitPos) : (fireScan t c).ScannedTo t c 12 :=
  scanFirst_scannedTo t c le_rfl

theorem fireSubset_snd (t : Mask) (c : BitPos) : (fireSubset t c).2 = (fireScan t c).last := by
  rw [fireSubset]

/-- A position is fired if it is set and fewer than six set ones come before it in the scan (R74). -/
theorem testBit_fireSubset (t : Mask) (c k : BitPos) :
    testBit (fireSubset t c).1 (c + k) = (testBit t (c + k) && decide (setBitsBefore t c k.val < 6)) := by
  rw [fireSubset_fst, Bool.eq_iff_iff, (fireScan_scannedTo t c).fired, and_iff_right k.isLt]
  simp [Fires]

/-- The same of a position by its own number. -/
theorem testBit_fireSubset_sub (t : Mask) (c i : BitPos) :
    testBit (fireSubset t c).1 i = (testBit t i && decide (setBitsBefore t c (i - c).val < 6)) := by
  have h := testBit_fireSubset t c (i - c)
  rwa [add_sub_cancel] at h

/-- Among any first positions of the scan, the fired ones are the set ones up to six (R74). -/
theorem setBitsBefore_fireSubset (t : Mask) (c : BitPos) {n : Nat} (hn : n ≤ 12) :
    setBitsBefore (fireSubset t c).1 c n = min 6 (setBitsBefore t c n) := by
  induction n with
  | zero => rfl
  | succ n ih =>
    have hfired := setBitsBefore_succ (fireSubset t c).1 c ⟨n, hn⟩
    have hset := setBitsBefore_succ t c ⟨n, hn⟩
    rw [testBit_fireSubset] at hfired
    simp only [Bool.and_eq_true, decide_eq_true_eq] at hfired hset
    rw [hfired, hset, ih (by omega)]
    cases testBit t (c + ⟨n, hn⟩)
    · simp
    · simp only [true_and, if_true]
      split
      · omega
      · omega

theorem popcount12_fireSubset (t : Mask) (c : BitPos) :
    popcount12 (fireSubset t c).1 = min 6 (popcount12 t) := by
  rw [← setBitsBefore_all _ c, setBitsBefore_fireSubset t c le_rfl, setBitsBefore_all]

theorem fireScan_taken (t : Mask) (c : BitPos) : (fireScan t c).taken = min 6 (popcount12 t) := by
  rw [fireScan_eq_scanFirst, scanFirst_taken, setBitsBefore_all]

/-- Settles O36: what the scan has fired after all twelve positions. -/
theorem firedSubsetIsTheFirstSix : Obligations.FiredSubsetIsTheFirstSix := by
  intro t c ht
  obtain ⟨i, hi⟩ := exists_testBit ht
  have hpop := popcount12_pos hi
  have htaken := fireScan_taken t c
  refine ⟨testBit_fireSubset t c, popcount12_fireSubset t c, ?_, ?_, ?_⟩
  · rw [popcount12_fireSubset]
    omega
  · rw [fireSubset_fst, fireSubset_snd]
    exact (fireScan_scannedTo t c).last_fired (by omega)
  · rw [fireSubset_fst, fireSubset_snd]
    exact (fireScan_scannedTo t c).le_last

/-! Two strobes of one target: 44_multiplexer.md, R75 and R79 -/

theorem fireSubset_zero (c : BitPos) : (fireSubset 0#12 c).1 = 0#12 :=
  mask_ext fun i => by simp [testBit_fireSubset_sub]

/-- A scan on its way to the position `i` that passes `p` does from there on what a scan from `p` does. -/
theorem setBitsBefore_of_le (t : Mask) {c p i : BitPos} (h : p - c ≤ i - c) :
    setBitsBefore t c (i - c).val = setBitsBefore t c (p - c).val + setBitsBefore t p (i - p).val := by
  have hdist : (i - p).val = (i - c).val - (p - c).val := by
    rw [← Fin.sub_val_of_le h, sub_sub_sub_cancel_right]
  have hle : (p - c).val ≤ (i - c).val := h
  have hadd := setBitsBefore_add t c (p - c) (n := (i - p).val) (by omega)
  rwa [add_sub_cancel, hdist, Nat.add_sub_cancel' hle, ← hdist] at hadd

/-- A scan that leaves a set bit out has taken six positions, the last of them before that bit (R74). -/
theorem last_before_of_not_fired {t : Mask} {c i : BitPos} (hset : testBit t i = true)
    (hsix : 6 ≤ setBitsBefore t c (i - c).val) :
    setBitsBefore t c (((fireSubset t c).2 - c).val + 1) = 6 ∧ ((fireSubset t c).2 - c).val < (i - c).val := by
  have hpop : 6 ≤ popcount12 t := by
    rw [← setBitsBefore_all t c]
    exact hsix.trans (setBitsBefore_mono t c (i - c).isLt.le)
  have htaken : (fireScan t c).taken = 6 := (fireScan_taken t c).trans (min_eq_left hpop)
  have hlast : setBitsBefore t c (((fireSubset t c).2 - c).val + 1) = 6 := by
    rw [fireSubset_snd, (fireScan_scannedTo t c).setBits_last (by omega), htaken]
  refine ⟨hlast, ?_⟩
  by_contra hnlt
  have hle : (i - c).val ≤ ((fireSubset t c).2 - c).val := not_lt.mp hnlt
  have hmono := setBitsBefore_mono t c (Nat.add_le_add_right hle 1)
  have hsucc := setBitsBefore_succ t c (i - c)
  rw [add_sub_cancel, if_pos hset] at hsucc
  omega

/-- A set bit that a scan leaves out is fired by the scan from just past the last position taken: six of the at most
eleven positions before it lie behind that position (R75). -/
theorem testBit_fireSubset_next {t : Mask} {c i : BitPos} (hset : testBit t i = true)
    (hout : testBit (fireSubset t c).1 i = false) :
    testBit (fireSubset t ((fireSubset t c).2 + 1)).1 i = true := by
  have hsix : 6 ≤ setBitsBefore t c (i - c).val := by
    rw [testBit_fireSubset_sub, hset] at hout
    simpa using hout
  obtain ⟨hlast, hlt⟩ := last_before_of_not_fired hset hsix
  generalize (fireSubset t c).2 = last at hlast hlt ⊢
  have hval : (last + 1 - c).val = (last - c).val + 1 := by
    rw [← sub_add_eq_add_sub, Fin.val_add_one_of_lt' (by have := (i - c).isLt; omega)]
  have hpast : last + 1 - c ≤ i - c := by
    rw [Fin.le_def, hval]
    exact hlt
  have hsplit := setBitsBefore_of_le t hpast
  rw [hval, hlast] at hsplit
  have hle := setBitsBefore_le t c (i - c).val
  rw [testBit_fireSubset_sub, hset, Bool.true_and, decide_eq_true_eq]
  omega

/-- No scan fires a clear bit (R74). -/
theorem testBit_fireSubset_of_clear {t : Mask} {i : BitPos} (h : testBit t i = false) (c : BitPos) :
    testBit (fireSubset t c).1 i = false := by
  rw [testBit_fireSubset_sub, h, Bool.false_and]

/-- The LED outputs after a high-rate tick: the fired subset of the target, which is empty where the target is dark
(R73, R76). -/
theorem htick_ledOut (s : State) :
    (strobe (audioTick s)).ledOut = (fireSubset (targetMask s) s.muxCursor).1 := by
  by_cases h : NextStrobeDark s
  · rw [(htick_of_dark h).1, (targetMask_eq_zero_iff s).mpr h, fireSubset_zero]
  · exact (htick_of_lit_registers h).1

/-- The strobes drive the layer `l` or none: it is selected under LAST_PUBLISHED, or no other layer is lit under
ROUND_ROBIN. -/
def TargetsOnly (l : Layer) (s : State) : Prop :=
  (s.params.layerPolicy = .lastPublished ∧ l = s.selLayer) ∨
    (s.params.layerPolicy = .roundRobin ∧ ∀ k : Layer, k ≠ l → matrixRead s.matrix k = 0#12)

theorem TargetsOnly.targetMask {l : Layer} {s : State} (hs : TargetsOnly l s) :
    targetMask s = matrixRead s.matrix l := by
  rcases hs with ⟨hp, rfl⟩ | ⟨hp, hdark⟩
  · rw [Machine.targetMask, targetLayer_of_lastPublished hp]
  · rw [Machine.targetMask, targetLayer_of_roundRobin hp]
    by_cases hl : nextLitLayer s.matrix s.selLayer = l
    · rw [hl]
    · have hzero : s.matrix = LedMatrix.zero := (matrixRead_nextLitLayer_eq_zero_iff _ _).mp (hdark _ hl)
      rw [hzero, matrixRead_zero, matrixRead_zero]

theorem TargetsOnly.htick {l : Layer} {s : State} (hs : TargetsOnly l s) :
    TargetsOnly l (strobe (audioTick s)) := by
  rcases hs with ⟨hp, rfl⟩ | ⟨hp, hdark⟩
  · exact .inl ⟨by simp [hp], by rw [strobe_selLayer, targetLayer_audioTick, targetLayer_of_lastPublished hp]⟩
  · exact .inr ⟨by simp [hp], by simpa using hdark⟩

/-- Settles O37: both ticks fire subsets of the same target, and the second one goes on where the first one stopped. -/
theorem twoStrobesFireEverySetBit : Obligations.TwoStrobesFireEverySetBit := by
  intro s l (hs : TargetsOnly l s)
  refine ⟨_, _, exec_htick s, exec_htick (strobe (audioTick s)), fun i => ?_⟩
  have htarget : targetMask (strobe (audioTick s)) = matrixRead s.matrix l := by simp [hs.htick.targetMask]
  rw [htick_ledOut (strobe (audioTick s)), htick_ledOut s, htarget, hs.targetMask]
  refine ⟨fun hset => ?_, fun hclear =>
    ⟨testBit_fireSubset_of_clear hclear _, testBit_fireSubset_of_clear hclear _⟩⟩
  cases hfirst : testBit (fireSubset (matrixRead s.matrix l) s.muxCursor).1 i
  · have hlit : ¬ NextStrobeDark s := by
      rw [← targetMask_eq_zero_iff, hs.targetMask]
      intro hzero
      simp [hzero] at hset
    obtain ⟨_, _, hcursor⟩ := htick_of_lit_registers hlit
    rw [hcursor, hs.targetMask]
    exact .inr (testBit_fireSubset_next hset hfirst)
  · exact .inl rfl

/-! Round robin: 44_multiplexer.md, R72 -/

/-- The three layers in cyclic order after `j`, `j` itself last. -/
theorem layer_cases (l j : Layer) : l = j + 1 ∨ l = j + 2 ∨ l = j := by
  revert l j
  decide

/-- The search meets the layer two places on at once, or after the layer between. -/
theorem nextLitLayer_reaches_second {m : LedMatrix} {j : Layer} (h : matrixRead m (j + 2) ≠ 0#12) :
    nextLitLayer m j = j + 2 ∨ nextLitLayer m (nextLitLayer m j) = j + 2 := by
  rcases nextLitLayer_cases m j with ⟨_, h1⟩ | ⟨_, _, h2⟩ | ⟨_, hdark, _⟩
  · have hstep : j + 2 = j + 1 + 1 := by rw [add_assoc]; rfl
    rw [h1]
    exact .inr ((nextLitLayer_eq_iff h (j + 1)).mpr (.inl hstep))
  · exact .inl h2
  · exact absurd hdark h

/-- Three searches in a row, each from the layer that the one before it found, meet every lit layer (R72). -/
theorem nextLitLayer_reaches {m : LedMatrix} {l : Layer} (hl : matrixRead m l ≠ 0#12) (j : Layer) :
    nextLitLayer m j = l ∨ nextLitLayer m (nextLitLayer m j) = l ∨
      nextLitLayer m (nextLitLayer m (nextLitLayer m j)) = l := by
  rcases layer_cases l j with rfl | rfl | rfl
  · exact .inl ((nextLitLayer_eq_iff hl j).mpr (.inl rfl))
  · rcases nextLitLayer_reaches_second hl with h | h
    · exact .inl h
    · exact .inr (.inl h)
  · rcases nextLitLayer_cases m l with ⟨_, h⟩ | ⟨_, _, h⟩ | ⟨_, _, h⟩
    · have hstep : l = l + 1 + 2 := by rw [add_assoc]; exact (add_zero l).symm
      rw [h]
      generalize l + 1 = k at hstep ⊢
      subst hstep
      exact .inr (nextLitLayer_reaches_second hl)
    · have hstep : l = l + 2 + 1 := by rw [add_assoc]; exact (add_zero l).symm
      rw [h]
      exact .inr (.inl ((nextLitLayer_eq_iff hl (l + 2)).mpr (.inl hstep)))
    · exact .inl h

/-- A high-rate tick under ROUND_ROBIN with a lit layer: it keeps the policy and the matrix, selects the next lit layer
and asserts that layer's ground line (R72, R76). -/
theorem htick_roundRobin {s : State} {l : Layer} (hp : s.params.layerPolicy = .roundRobin)
    (hl : matrixRead s.matrix l ≠ 0#12) :
    (strobe (audioTick s)).params.layerPolicy = .roundRobin ∧ (strobe (audioTick s)).matrix = s.matrix ∧
    (strobe (audioTick s)).selLayer = nextLitLayer s.matrix s.selLayer ∧
    (strobe (audioTick s)).gndOut = onehot3 (nextLitLayer s.matrix s.selLayer) := by
  have hlit : ¬ NextStrobeDark s := by
    rw [← targetMask_eq_zero_iff, targetMask, targetLayer_of_roundRobin hp, matrixRead_nextLitLayer_eq_zero_iff]
    intro hzero
    exact hl (by rw [hzero, matrixRead_zero])
  obtain ⟨_, hgnd, _⟩ := htick_of_lit_registers hlit
  rw [targetLayer_of_roundRobin hp] at hgnd
  exact ⟨by simp [hp], by simp, by rw [strobe_selLayer, targetLayer_audioTick, targetLayer_of_roundRobin hp], hgnd⟩

/-- Settles O38: each of the three ticks drives the next lit layer, and the three meet every lit layer. -/
theorem roundRobinDrivesEveryLitLayer : Obligations.RoundRobinDrivesEveryLitLayer := by
  intro s l hp hl
  obtain ⟨hp₁, hm₁, hsel₁, hgnd₁⟩ := htick_roundRobin hp hl
  refine ⟨_, _, _, exec_htick s, exec_htick _, exec_htick _, ?_⟩
  generalize strobe (audioTick s) = t at *
  obtain ⟨hp₂, hm₂, hsel₂, hgnd₂⟩ := htick_roundRobin (s := t) hp₁ (hm₁ ▸ hl)
  generalize strobe (audioTick t) = u at *
  obtain ⟨_, _, _, hgnd₃⟩ := htick_roundRobin (s := u) hp₂ (hm₂ ▸ hm₁ ▸ hl)
  rw [hgnd₁, hgnd₂, hgnd₃, hsel₂, hm₂, hsel₁, hm₁]
  exact (nextLitLayer_reaches hl s.selLayer).imp (congrArg onehot3) (Or.imp (congrArg onehot3) (congrArg onehot3))

end Sys2Proof.Machine

namespace Sys2Proof.Machine

/-! The AudioStreamer: 45_audio_streamer.md, R80 to R82 -/

/-! The tone writes of a stretch of the output trace -/

@[simp] theorem toneWrites_append (ws vs : List Output) :
    toneWrites (ws ++ vs) = toneWrites ws ++ toneWrites vs := by
  induction ws with
  | nil => rfl
  | cons w ws ih => cases w <;> simp [toneWrites, ih]

/-- From `s` to `t` the output trace grew, and its tone writes are the samples `bs`. -/
def WritesTones (bs : List Byte) (s t : State) : Prop :=
  ∃ ws, t.trace = s.trace ++ ws ∧ toneWrites ws = bs

theorem WritesTones.of_trace_eq {s t : State} (h : t.trace = s.trace) : WritesTones [] s t :=
  ⟨[], by rw [h, List.append_nil], rfl⟩

theorem WritesTones.trans {bs cs : List Byte} {s t u : State} (h : WritesTones bs s t) (k : WritesTones cs t u) :
    WritesTones (bs ++ cs) s u := by
  obtain ⟨ws, hws, hbs⟩ := h
  obtain ⟨vs, hvs, hcs⟩ := k
  exact ⟨ws ++ vs, by rw [hvs, hws, List.append_assoc], by rw [toneWrites_append, hbs, hcs]⟩

/-- The tone writes are those of what the later trace adds to the earlier one. -/
theorem WritesTones.toneWrites_drop {bs : List Byte} {s t : State} (h : WritesTones bs s t) :
    toneWrites (t.trace.drop s.trace.length) = bs := by
  obtain ⟨ws, hws, hbs⟩ := h
  rw [hws, List.drop_left, hbs]

/-- A strobe writes LED and ground outputs alone (R70, R76). -/
theorem writesTones_strobe (s : State) : WritesTones [] s (strobe s) := by
  by_cases h : NextStrobeDark s
  · exact ⟨[.led 0#12, .gnd 0#3], by simp [strobe_of_dark h, breakOutputs], rfl⟩
  · exact ⟨[.led 0#12, .gnd 0#3, .led (fireSubset (targetMask s) s.muxCursor).1, .gnd (onehot3 (targetLayer s))],
      by simp [strobe_of_lit h, fireLayer_eq, breakOutputs], rfl⟩

/-! One high-rate tick with audio: R81, R84 -/

/-- The audio part is the first write of a high-rate tick; the strobe's writes follow it (R84). -/
theorem htick_trace {s : State} (ha : s.params.hasAudio = true) :
    ∃ ws, (strobe (audioTick s)).trace = s.trace ++ .tone (memReadPcm s.params s.audioCursor) :: ws ∧
      toneWrites ws = [] := by
  obtain ⟨ws, htrace, htones⟩ := writesTones_strobe (audioTick s)
  exact ⟨ws, by rw [htrace, audioTick_eq]; simp [ha], htones⟩

theorem writesTones_htick {s : State} (ha : s.params.hasAudio = true) :
    WritesTones [memReadPcm s.params s.audioCursor] s (strobe (audioTick s)) := by
  obtain ⟨ws, htrace, htones⟩ := htick_trace ha
  exact ⟨_, htrace, by rw [toneWrites, htones]⟩

theorem htick_audioCursor {s : State} (ha : s.params.hasAudio = true) :
    (strobe (audioTick s)).audioCursor = (s.audioCursor + 1) % pcmLen s.params := by
  simp [audioTick_eq, ha]

theorem htick_toneOut {s : State} (ha : s.params.hasAudio = true) :
    (strobe (audioTick s)).toneOut = memReadPcm s.params s.audioCursor := by
  simp [audioTick_eq, ha]

/-- Settles O40: the audio part precedes the strobe, which writes no tone, and inside the table it reads the sample. -/
theorem audioAdvanceWritesTheSample : Obligations.AudioAdvanceWritesTheSample := by
  intro s ha hcursor
  obtain ⟨ws, htrace, htones⟩ := htick_trace ha
  exact ⟨strobe (audioTick s), memReadPcm s.params s.audioCursor, ws, exec_htick s,
    memReadPcm_of_lt s.params s.audioCursor hcursor, htick_toneOut ha, htick_audioCursor ha, htrace, htones⟩

/-! Runs of high-rate ticks: R82 -/

/-- The samples that `n` high-rate ticks play from the cursor `c`. -/
def samplesFrom (p : Params) (c n : Nat) : List Byte :=
  (List.range n).map fun k => memReadPcm p ((c + k) % pcmLen p)

/-- The first of them is the sample at a cursor inside the table, the others are played from the next cursor. -/
theorem samplesFrom_succ {p : Params} {c : Nat} (hc : c < pcmLen p) (n : Nat) :
    samplesFrom p c (n + 1) = memReadPcm p c :: samplesFrom p ((c + 1) % pcmLen p) n := by
  simp [samplesFrom, List.range_succ_eq_map, Function.comp_def, Nat.mod_eq_of_lt hc, Nat.add_assoc, Nat.add_comm 1]

/-- PCM_LEN samples are the whole table once, from the cursor's entry on. -/
theorem samplesFrom_pcmLen (p : Params) (c : Nat) :
    samplesFrom p c (pcmLen p) = (p.pcm.first :: p.pcm.rest).rotate c := by
  have hlen : (p.pcm.first :: p.pcm.rest).length = pcmLen p := rfl
  refine List.ext_getElem (by simp [samplesFrom, hlen]) fun k _ hk => ?_
  rw [List.length_rotate] at hk
  have hread := memReadPcm_of_lt p ((c + k) % pcmLen p) (Nat.mod_lt _ (pcmLen_pos p))
  rw [← Option.some_inj, ← List.getElem?_eq_getElem, ← List.getElem?_eq_getElem, List.getElem?_rotate hk, hlen,
    Nat.add_comm k c, hread]
  simp [samplesFrom, hlen ▸ hk]

/-- `n` high-rate ticks move the cursor on by `n` modulo PCM_LEN and play the samples on its way. -/
theorem runEvents_htick_audio (n : Nat) {s : State} (ha : s.params.hasAudio = true)
    (hc : s.audioCursor < pcmLen s.params) :
    ∃ t, runEvents (List.replicate n .htick) s = .next t ∧
      t.audioCursor = (s.audioCursor + n) % pcmLen s.params ∧
      WritesTones (samplesFrom s.params s.audioCursor n) s t := by
  induction n generalizing s with
  | zero => exact ⟨s, rfl, (Nat.mod_eq_of_lt hc).symm, .of_trace_eq rfl⟩
  | succ n ih =>
    have hparams : (strobe (audioTick s)).params = s.params := by simp
    have hcursor := htick_audioCursor ha
    obtain ⟨t, ht, hcur, htones⟩ := ih (s := strobe (audioTick s)) (by rwa [hparams])
      (by rw [hcursor, hparams]; exact Nat.mod_lt _ (pcmLen_pos s.params))
    rw [hparams, hcursor] at hcur htones
    refine ⟨t, (runEvents_cons _ (exec_htick s)).trans ht, ?_, ?_⟩
    · rw [hcur, Nat.mod_add_mod, Nat.add_assoc, Nat.add_comm 1 n]
    · rw [samplesFrom_succ hc]
      exact (writesTones_htick ha).trans htones

/-- Every sequence of events from reset keeps the parameters and leaves the registers in their ranges (R8, R82). -/
theorem runEvents_resetState_inRange (p : Params) (ins : List Input) (es : List Instr) :
    ∃ t, runEvents es (resetState p ins) = .next t ∧ t.params = p ∧ RegistersInRange t :=
  runEvents_keeps (P := fun t => t.params = p ∧ RegistersInRange t)
    (fun e _ s t ⟨hparams, hrange⟩ h =>
      ⟨(exec_params h).trans hparams, exec_keeps_registersInRange e s t hrange h⟩)
    ⟨rfl, registersInRange_resetState p ins⟩

/-- Settles O41: every event keeps the ranges, and a run of high-rate ticks is counted by `runEvents_htick_audio`, from
reset and over a whole cycle. -/
theorem audioCursorCyclesThroughTheTable : Obligations.AudioCursorCyclesThroughTheTable := by
  refine ⟨fun p ins es _ => ?_, fun p ins n ha => ?_, fun s ha hc => ?_⟩
  · obtain ⟨t, ht, hparams, _, _, hcursor⟩ := runEvents_resetState_inRange p ins es
    exact ⟨t, ht, hparams ▸ hcursor⟩
  · obtain ⟨t, ht, hcursor, _⟩ := runEvents_htick_audio n (s := resetState p ins) ha (pcmLen_pos p)
    exact ⟨t, ht, by rw [hcursor, resetState_audioCursor, resetState_params, Nat.zero_add]⟩
  · obtain ⟨t, ht, hcursor, htones⟩ := runEvents_htick_audio (pcmLen s.params) ha hc
    refine ⟨t, ht, ?_, ?_⟩
    · rw [hcursor, Nat.add_mod_right, Nat.mod_eq_of_lt hc]
    · rw [htones.toneWrites_drop, samplesFrom_pcmLen]

/-! What the audio depends on: R80 -/

/-- The two states agree on the parameters and the audio registers. -/
structure SameAudio (s t : State) : Prop where
  params : s.params = t.params
  audioCursor : s.audioCursor = t.audioCursor
  toneOut : s.toneOut = t.toneOut

theorem SameAudio.refl (s : State) : SameAudio s s :=
  ⟨rfl, rfl, rfl⟩

theorem SameAudio.symm {s t : State} (h : SameAudio s t) : SameAudio t s :=
  ⟨h.params.symm, h.audioCursor.symm, h.toneOut.symm⟩

theorem SameAudio.trans {s t u : State} (h : SameAudio s t) (k : SameAudio t u) : SameAudio s u :=
  ⟨h.params.trans k.params, h.audioCursor.trans k.audioCursor, h.toneOut.trans k.toneOut⟩

/-- The audio is touched by a RESET, and by a high-rate tick where there is an AudioStreamer, and by no other event. -/
theorem exec_keeps_audio {e : Instr} {s t : State} (hreset : e ≠ .reset)
    (hquiet : e = .htick → s.params.hasAudio = false) (h : exec e s = .next t) :
    SameAudio s t ∧ WritesTones [] s t := by
  rcases exec_cases h with
    ⟨_, rfl⟩ | ⟨he, _⟩ | ⟨he, rfl⟩ | ⟨_, rfl⟩ | ⟨b, _, _, rfl⟩ | ⟨b, _, _, rfl⟩
  · exact ⟨.refl t, .of_trace_eq rfl⟩
  · exact absurd he hreset
  · rw [audioTick_without s (hquiet he)]
    exact ⟨by constructor <;> simp, writesTones_strobe s⟩
  · exact ⟨by constructor <;> simp, .of_trace_eq (by simp)⟩
  · exact ⟨by constructor <;> simp, .of_trace_eq (by simp)⟩
  · exact ⟨.refl t, .of_trace_eq rfl⟩

/-- Settles O42: without an AudioStreamer every event but RESET keeps the audio, and so does their run. -/
theorem withoutAudioNoToneIsWritten : Obligations.WithoutAudioNoToneIsWritten := by
  intro es s ha hreset
  have hstep : ∀ e ∈ es, ∀ t u : State, SameAudio s t ∧ WritesTones [] s t → exec e t = .next u →
      SameAudio s u ∧ WritesTones [] s u := by
    rintro e he t u ⟨hsame, htones⟩ h
    obtain ⟨hsame', htones'⟩ :=
      exec_keeps_audio (fun hr => hreset (hr ▸ he)) (fun _ => hsame.params ▸ ha) h
    exact ⟨hsame.trans hsame', htones.trans htones'⟩
  obtain ⟨t, ht, hsame, ws, hws, htones⟩ := runEvents_keeps hstep ⟨.refl s, .of_trace_eq rfl⟩
  exact ⟨t, ws, ht, hsame.audioCursor.symm, hsame.toneOut.symm, hws, htones⟩

theorem sameAudio_resetState {s t : State} (h : SameAudio s t) :
    SameAudio (resetState s.params s.inputs) (resetState t.params t.inputs) :=
  ⟨h.params, rfl, rfl⟩

/-- The audio part of a high-rate tick reads the parameters and the cursor alone (R81). -/
theorem sameAudio_htick {s t : State} (h : SameAudio s t) :
    SameAudio (strobe (audioTick s)) (strobe (audioTick t)) := by
  constructor <;> simp [audioTick_eq, h.params, h.audioCursor, h.toneOut]

/-- One event keeps two states in agreement: a RESET and a high-rate tick do the same to both, and every other event
keeps the audio of each. -/
theorem exec_sameAudio {s s' : State} (h : SameAudio s s') (e : Instr) :
    ∃ t t', exec e s = .next t ∧ exec e s' = .next t' ∧ SameAudio t t' := by
  by_cases hreset : e = .reset
  · subst hreset
    exact ⟨_, _, exec_reset s, exec_reset s', sameAudio_resetState h⟩
  by_cases hhtick : e = .htick
  · subst hhtick
    exact ⟨_, _, exec_htick s, exec_htick s', sameAudio_htick h⟩
  obtain ⟨t, ht⟩ := exec_completes e s
  obtain ⟨t', ht'⟩ := exec_completes e s'
  obtain ⟨hkept, _⟩ := exec_keeps_audio hreset (absurd · hhtick) ht
  obtain ⟨hkept', _⟩ := exec_keeps_audio hreset (absurd · hhtick) ht'
  exact ⟨t, t', ht, ht', hkept.symm.trans (h.trans hkept')⟩

theorem runEvents_sameAudio (es : List Instr) {s s' : State} (h : SameAudio s s') :
    ∃ t t', runEvents es s = .next t ∧ runEvents es s' = .next t' ∧ SameAudio t t' := by
  induction es generalizing s s' with
  | nil => exact ⟨s, s', rfl, rfl, h⟩
  | cons e es ih =>
    obtain ⟨u, u', hu, hu', hsame⟩ := exec_sameAudio h e
    obtain ⟨t, t', ht, ht', hsame'⟩ := ih hsame
    exact ⟨t, t', (runEvents_cons es hu).trans ht, (runEvents_cons es hu').trans ht', hsame'⟩

/-- Settles O43: the two runs keep the agreement on the audio. -/
theorem audioIsIndependentOfTheMode : Obligations.AudioIsIndependentOfTheMode := by
  intro es s s' hparams hcursor htone
  obtain ⟨t, t', ht, ht', hsame⟩ := runEvents_sameAudio es ⟨hparams, hcursor, htone⟩
  exact ⟨t, t', ht, ht', hsame.audioCursor, hsame.toneOut⟩

end Sys2Proof.Machine

namespace Sys2Proof.Machine

/-! The current budget, write by write: 70_reset_and_hazards.md, R102; 44_multiplexer.md, R77 and R78 -/

/-- The write keeps the current budget by itself: from the outputs that are off it leaves outputs within the budget. -/
def WriteWithinBudget (w : Output) : Prop :=
  (Pins.atReset.write w).withinBudget

theorem writeWithinBudget_led_iff (v : Mask) : WriteWithinBudget (.led v) ↔ popcount12 v ≤ 6 :=
  and_iff_left (.inl rfl)

theorem writeWithinBudget_gnd_iff (v : GroundLines) :
    WriteWithinBudget (.gnd v) ↔ v = 0#3 ∨ ∃ l : Layer, v = onehot3 l :=
  and_iff_right (by simp [Pins.write, Pins.atReset])

theorem writeWithinBudget_tone (v : Byte) : WriteWithinBudget (.tone v) :=
  withinBudget_atReset

theorem writeWithinBudget_led_off : WriteWithinBudget (.led 0#12) :=
  (writeWithinBudget_led_iff _).mpr (by simp)

theorem writeWithinBudget_gnd_off : WriteWithinBudget (.gnd 0#3) :=
  (writeWithinBudget_gnd_iff _).mpr (.inl rfl)

/-- The fired subset is at most six LEDs (R77). -/
theorem writeWithinBudget_fired (t : Mask) (c : BitPos) : WriteWithinBudget (.led (fireSubset t c).1) :=
  (writeWithinBudget_led_iff _).mpr (popcount12_fireSubset_le t c)

/-- A layer is driven over its one ground line (R78). -/
theorem writeWithinBudget_layer (l : Layer) : WriteWithinBudget (.gnd (onehot3 l)) :=
  (writeWithinBudget_gnd_iff _).mpr (.inr ⟨l, rfl⟩)

/-- From `s` to `t` the output trace grew by writes that each keep the budget. -/
def WritesWithinBudget (s t : State) : Prop :=
  ∃ ws, t.trace = s.trace ++ ws ∧ ∀ w ∈ ws, WriteWithinBudget w

theorem WritesWithinBudget.trans {s t u : State} (h : WritesWithinBudget s t) (k : WritesWithinBudget t u) :
    WritesWithinBudget s u := by
  obtain ⟨ws, hws, hbudget⟩ := h
  obtain ⟨vs, hvs, hbudget'⟩ := k
  exact ⟨ws ++ vs, by rw [hvs, hws, List.append_assoc], List.forall_mem_append.mpr ⟨hbudget, hbudget'⟩⟩

/-- The audio part writes no LED and no ground line: one sample, or nothing (R81). -/
theorem writesWithinBudget_audioTick (s : State) : WritesWithinBudget s (audioTick s) := by
  cases ha : s.params.hasAudio
  · exact ⟨[], by simp [audioTick_without s ha], by simp⟩
  · exact ⟨[.tone (memReadPcm s.params s.audioCursor)], by simp [audioTick_eq, ha],
      by simp [writeWithinBudget_tone]⟩

/-- A strobe switches both ports off; then it writes nothing more, or a fired subset and one ground line
(R70 to R76). -/
theorem writesWithinBudget_strobe (s : State) : WritesWithinBudget s (strobe s) := by
  by_cases h : NextStrobeDark s
  · exact ⟨[.led 0#12, .gnd 0#3], by simp [strobe_of_dark h, breakOutputs],
      by simp [writeWithinBudget_led_off, writeWithinBudget_gnd_off]⟩
  · exact ⟨[.led 0#12, .gnd 0#3, .led (fireSubset (targetMask s) s.muxCursor).1, .gnd (onehot3 (targetLayer s))],
      by simp [strobe_of_lit h, fireLayer_eq, breakOutputs],
      by simp [writeWithinBudget_led_off, writeWithinBudget_gnd_off, writeWithinBudget_fired,
        writeWithinBudget_layer]⟩

/-- Settles O46: the audio part and the strobe keep the budget with every write, and the registers after the strobe are
within it (`outputsOfState_strobe`), whatever the state. -/
theorem everyStrobeKeepsTheBudget : Obligations.EveryStrobeKeepsTheBudget := by
  intro s
  obtain ⟨ws, htrace, hbudget⟩ := (writesWithinBudget_audioTick s).trans (writesWithinBudget_strobe (audioTick s))
  obtain ⟨⟨hled, hgnd⟩, _⟩ := outputsOfState_strobe (audioTick s)
  exact ⟨strobe (audioTick s), ws, exec_htick s, htrace,
    fun v hv => (writeWithinBudget_led_iff v).mp (hbudget _ hv),
    fun v hv => (writeWithinBudget_gnd_iff v).mp (hbudget _ hv), hled, hgnd⟩

end Sys2Proof.Machine
